-- ==== Sys2Proof/Word.lean ====
section
/-! DEFINITION. The words of the part: bytes on the wire, the 48-bit tick and the 16-bit epoch. -/

namespace Sys2Proof

/-- One byte on a port or on the IMU bus, or one sensor register's address or value. -/
abbrev Byte := BitVec 8

/-- A value of the tick counter (R1): 48 bits, wrapping from 2^48 − 1 to 0. -/
abbrev Tick := BitVec 48

/-- The epoch number kept in the Retained Store (section 1.2): 16 bits. -/
abbrev Epoch := BitVec 16

/-- A frame number (R63): 32 bits, advancing from 2^32 − 1 to 0. -/
abbrev FrameNo := BitVec 32

end Sys2Proof
end

