-- ==== Sys2Proof/Config.lean ====
section
/-! DEFINITION. What one implementation of the part fixes. The spec leaves no value a command writes
open, so there is no free value here (log 27). -/

namespace Sys2Proof

/-- The part code IDENTIFY returns (R205). -/
def Config.partCode : Nat := 0x4610

/-- The revision IDENTIFY returns (R205): 1 for the part the manual describes. -/
def Config.revision : Nat := 1

end Sys2Proof
end

