-- ==== Sys2Proof/Syntax.lean ====
section
/-! DEFINITION. The commands of the block: one constructor of `Instr` for each row of
spec/opcode_table.json, with the operands the world or a master supplies. -/

namespace Sys2Proof

/-- The two request ports: Port A of the media processor, Port B of the system controller. -/
inductive Port where
  | a | b
  deriving DecidableEq, Repr

/-- The level of a pin. -/
inductive Level where
  | low | high
  deriving DecidableEq, Repr

/-- The two pulse generators (section 1.6). -/
inductive GenId where
  | ftrig | iset
  deriving DecidableEq, Repr

/-- The request kinds of section 11.2, FETCH apart. -/
inductive Kind where
  | identify | noticeRead | noticeMask | policySet | policyLock | softReset
  | timeRead | timePair | wheelSet | wheelRead
  | imuLinkSet | imuBankWrite | imuBankRead | imuStart | imuStop | imuAccess | imuStatus
  | motionSet | biasSet | motionRead
  | lensSet | frameStart | frameStop | corrRead | frameStatus
  | cardSet | formatCatalogue | clipOpen | clipReserve | clipProgress | clipClose | clipDeleted
  | clipProtect | clipUnprotect | clipForget | clipRead | clipList | cardRead
  | markUser | markRead | recoveryRead | recoveryClear
  | supplySet | supplyRead | railOn | railOff
  | chargeSet | chargeEnable | powerTableSet | powerClass | faultClear | chargeRead
  | gaugeSet | gaugeRead
  deriving DecidableEq, Repr

/-- What the slot was when a request transfer's kind byte was received (R189), the command standing for the
transfer's end (log 1): what it is at the command, or WORKING or ANSWERED, which it has left since. -/
inductive Began where
  | now | whileWorking | whileAnswered
  deriving DecidableEq, Repr

/-- What a request transfer carries after its kind byte (R188): the body-length byte, absent when the
master stops before it is complete, and the body bytes received; and what the slot was at its kind byte. -/
structure Frame where
  len   : Option Byte
  body  : List Byte
  began : Began
  deriving DecidableEq, Repr

/-- The six values a measurement round has converted, before the sequencer holds each to its range
(R140, R141). VIN, VBAT, VBKP in mV, IIN, IBAT in mA, the TBAT code raw. -/
structure RawMeas where
  vin  : Int
  iin  : Int
  vbat : Int
  ibat : Int
  tbat : Int
  vbkp : Int
  deriving DecidableEq, Repr

/-- The order, inside one measurement round, of the Supply Monitor's judgement of the supply state, the
Charge Controller's round work, and the Charge Controller's handling of an input change that the round
makes. R140, R162, R167 and R183 let any of them be taken first (log 11). -/
inductive WorkOrder where
  | supplyInputCharge | supplyChargeInput | inputSupplyCharge
  | inputChargeSupply | chargeSupplyInput | chargeInputSupply
  deriving DecidableEq, Repr

/-- The whole order of a round's work: `gaugeFirst` says whether the Gauge's addition comes before the
Charge Controller's round work (R183). -/
structure RoundOrder where
  works      : WorkOrder
  gaugeFirst : Bool
  deriving DecidableEq, Repr

/-- The commands. A request carries its port and its frame; an event carries what the world supplies
(pin levels, sensor bytes, converted values), as log 6 says. -/
inductive Instr where
  /-- POR (R126): VSYS rises from absent to `vsys` mV with the WHEEL input at `wheel`. -/
  | por (vsys : Nat) (wheel : Level)
  /-- VSYS_LOSS (R124). -/
  | vsysLoss
  /-- RETENTION_LOSS (R125). -/
  | retentionLoss
  /-- SOFT_RESET (R203). -/
  | softReset (p : Port) (f : Frame)
  /-- TIME_READ (R5). -/
  | timeRead (p : Port) (f : Frame)
  /-- TIME_PAIR (R9). -/
  | timePair (p : Port) (f : Frame)
  /-- SYNC_CAPTURE (R9): a rising edge on the SYNC input of port `p`. -/
  | syncCapture (p : Port)
  /-- PAIRING_TIMEOUT (R10) of port `p`. -/
  | pairingTimeout (p : Port)
  /-- WHEEL_RAW_CHANGE (R8): the raw WHEEL input changes to `level`. -/
  | wheelRawChange (level : Level)
  /-- WHEEL_QUALIFICATION (R8). -/
  | wheelQualification
  /-- STOP_TIMER_EXPIRY (R12). -/
  | stopTimerExpiry
  /-- WHEEL_SET (R14). -/
  | wheelSet (p : Port) (f : Frame)
  /-- WHEEL_READ (R15). -/
  | wheelRead (p : Port) (f : Frame)
  /-- GENERATOR_PERIOD_START (R16) of generator `g`. -/
  | generatorPeriodStart (g : GenId)
  /-- GENERATOR_WIDTH_END (R16) of generator `g`. -/
  | generatorWidthEnd (g : GenId)
  /-- IMU_LINK_SET (R20). -/
  | imuLinkSet (p : Port) (f : Frame)
  /-- IMU_BANK_WRITE (R22). -/
  | imuBankWrite (p : Port) (f : Frame)
  /-- IMU_BANK_READ (R23). -/
  | imuBankRead (p : Port) (f : Frame)
  /-- IMU_START (R24). -/
  | imuStart (p : Port) (f : Frame)
  /-- IMU_STOP (R25). -/
  | imuStop (p : Port) (f : Frame)
  /-- IMU_ACCESS (R35). -/
  | imuAccess (p : Port) (f : Frame)
  /-- IMU_STATUS (R37). -/
  | imuStatus (p : Port) (f : Frame)
  /-- STARTUP_EXPIRY (R26). -/
  | startupExpiry
  /-- IDENTITY_READ_COMPLETE (R26): the sensor sent `value`. -/
  | identityReadComplete (value : Byte)
  /-- BANK_WRITE_COMPLETE (R27). -/
  | bankWriteComplete
  /-- VERIFY_READ_COMPLETE (R27): the sensor sent `value`. -/
  | verifyReadComplete (value : Byte)
  /-- RECOVERY_EXPIRY (R29). -/
  | recoveryExpiry
  /-- DRDY_CAPTURE (R31). -/
  | drdyCapture
  /-- SAMPLE_BURST_COMPLETE (R32): the sensor sent `bytes`, in the order read (R21). -/
  | sampleBurstComplete (bytes : Vector Byte 12)
  /-- STALL_EXPIRY (R33). -/
  | stallExpiry
  /-- PASS_THROUGH_COMPLETE (R36): in a READ the sensor sent `value`. -/
  | passThroughComplete (value : Byte)
  /-- WATCH_TIMER_EXPIRY (R54). -/
  | watchTimerExpiry
  /-- BIAS_SET (R49). -/
  | biasSet (p : Port) (f : Frame)
  /-- MOTION_SET (R57). -/
  | motionSet (p : Port) (f : Frame)
  /-- MOTION_READ (R58). -/
  | motionRead (p : Port) (f : Frame)
  /-- LENS_SET (R60). -/
  | lensSet (p : Port) (f : Frame)
  /-- FRAME_START (R61). -/
  | frameStart (p : Port) (f : Frame)
  /-- FRAME_STOP (R62). -/
  | frameStop (p : Port) (f : Frame)
  /-- WINDOW_EXPIRY (R64). -/
  | windowExpiry
  /-- FST_CAPTURE (R65). -/
  | fstCapture
  /-- FEN_CAPTURE (R66). -/
  | fenCapture
  /-- BAND_DEADLINE_EXPIRY (R69, R71) of the pending band `band` of frame `frame`. -/
  | bandDeadlineExpiry (frame : FrameNo) (band : Nat)
  /-- CORR_READ (R77). -/
  | corrRead (p : Port) (f : Frame)
  /-- FRAME_STATUS (R79). -/
  | frameStatus (p : Port) (f : Frame)
  /-- CARD_SET (R83). -/
  | cardSet (p : Port) (f : Frame)
  /-- FORMAT_CATALOGUE (R84). -/
  | formatCatalogue (p : Port) (f : Frame)
  /-- CLIP_OPEN (R92). -/
  | clipOpen (p : Port) (f : Frame)
  /-- CLIP_RESERVE (R94). -/
  | clipReserve (p : Port) (f : Frame)
  /-- CLIP_PROGRESS (R97). -/
  | clipProgress (p : Port) (f : Frame)
  /-- CLIP_CLOSE (R98). -/
  | clipClose (p : Port) (f : Frame)
  /-- CLIP_DELETED (R100). -/
  | clipDeleted (p : Port) (f : Frame)
  /-- CLIP_PROTECT (R101). -/
  | clipProtect (p : Port) (f : Frame)
  /-- CLIP_UNPROTECT (R102). -/
  | clipUnprotect (p : Port) (f : Frame)
  /-- CLIP_FORGET (R103). -/
  | clipForget (p : Port) (f : Frame)
  /-- CLIP_READ (R108). -/
  | clipRead (p : Port) (f : Frame)
  /-- CLIP_LIST (R109). -/
  | clipList (p : Port) (f : Frame)
  /-- CARD_READ (R110). -/
  | cardRead (p : Port) (f : Frame)
  /-- MARK_USER (R116). -/
  | markUser (p : Port) (f : Frame)
  /-- MARK_READ (R121). -/
  | markRead (p : Port) (f : Frame)
  /-- COMPARATOR_FALL (R131). -/
  | comparatorFall
  /-- COMPARATOR_RISE (R131, R132). -/
  | comparatorRise
  /-- RECOVERY_READ (R138). -/
  | recoveryRead (p : Port) (f : Frame)
  /-- RECOVERY_CLEAR (R139). -/
  | recoveryClear (p : Port) (f : Frame)
  /-- MEASUREMENT_ROUND (R140): the converted values and the order of the blocks' work. -/
  | measurementRound (raw : RawMeas) (order : RoundOrder)
  /-- PRESENT_QUALIFICATION_EXPIRY (R143). -/
  | presentQualificationExpiry
  /-- RIDE_THROUGH_EXPIRY (R144). -/
  | rideThroughExpiry
  /-- BATTERY_LOW_DEBOUNCE_EXPIRY (R147). -/
  | batteryLowDebounceExpiry
  /-- HOLD_EXPIRY (R149). -/
  | holdExpiry
  /-- SUPPLY_SET (R145). -/
  | supplySet (p : Port) (f : Frame)
  /-- RAIL_ON (R152), with MRAIL_PG at `pg` when it is taken. -/
  | railOn (p : Port) (f : Frame) (pg : Level)
  /-- MRAIL_PG_RISE (R153). -/
  | mrailPgRise
  /-- RAMP_TIMEOUT (R153). -/
  | rampTimeout
  /-- RAIL_OFF (R154). -/
  | railOff (p : Port) (f : Frame)
  /-- SUPPLY_READ (R156). -/
  | supplyRead (p : Port) (f : Frame)
  /-- CHARGE_SET (R159). -/
  | chargeSet (p : Port) (f : Frame)
  /-- CHARGE_ENABLE (R160). -/
  | chargeEnable (p : Port) (f : Frame)
  /-- POWER_TABLE_SET (R161). -/
  | powerTableSet (p : Port) (f : Frame)
  /-- POWER_CLASS (R162). -/
  | powerClass (p : Port) (f : Frame)
  /-- QUALIFICATION_EXPIRY (R168). -/
  | qualificationExpiry
  /-- FAULT_CLEAR (R175). -/
  | faultClear (p : Port) (f : Frame)
  /-- CHARGE_READ (R181). -/
  | chargeRead (p : Port) (f : Frame)
  /-- GAUGE_SET (R184). -/
  | gaugeSet (p : Port) (f : Frame)
  /-- GAUGE_READ (R185). -/
  | gaugeRead (p : Port) (f : Frame)
  /-- FETCH (R192): the master clocks `n` bytes of the answer frame out of port `p`. -/
  | fetch (p : Port) (n : Nat)
  /-- BUSY_REFUSAL (R189): a request transfer with kind byte `kind` meets a WORKING slot; the master
  clocks the rest of the frame `f` all the same. -/
  | busyRefusal (p : Port) (kind : Byte) (f : Frame)
  /-- UNKNOWN_KIND (R194): a request whose kind byte `kind` names no kind. -/
  | unknownKind (p : Port) (kind : Byte) (f : Frame)
  /-- NOTICE_READ (R201). -/
  | noticeRead (p : Port) (f : Frame)
  /-- NOTICE_MASK (R202). -/
  | noticeMask (p : Port) (f : Frame)
  /-- POLICY_SET (R197). -/
  | policySet (p : Port) (f : Frame)
  /-- POLICY_LOCK (R198). -/
  | policyLock (p : Port) (f : Frame)
  /-- IDENTIFY (R205). -/
  | identify (p : Port) (f : Frame)
  /-- TICK_COUNTER_ADVANCE (R1). -/
  | tickCounterAdvance
  deriving DecidableEq, Repr

end Sys2Proof
end

