-- ==== Sys2Proof/Decode.lean ====
section
/-! DEFINITION. The command a word spells. spec/opcode_table.json gives none of its rows bits: a command
reaches the part as a transfer, an edge, an expiry or a completion, never as a word. -/

namespace Sys2Proof

/-- No row of the table has bits, so no word spells a command. -/
def decodeTableWord (_nbits _w : Nat) : Option Instr := none

end Sys2Proof
end

