-- ==== Sys2Proof/Machine/Kinds.lean ====
section
/-! DEFINITION. The request kinds: codes and body lengths (section 11.2), policy classes (section 10.4),
the kinds fixed to Port B (R194). -/

namespace Sys2Proof

/-- The eight policy classes of section 10.4, in the table's order. -/
inductive PolicyClass where
  | sensor | motion | frame | record | catalogue | rails | budget | charge
  deriving DecidableEq, Repr

/-- The kind code of section 11.2. -/
def Kind.code : Kind → Byte
  | .identify => 0x01
  | .noticeRead => 0x02
  | .noticeMask => 0x03
  | .policySet => 0x04
  | .policyLock => 0x05
  | .softReset => 0x06
  | .timeRead => 0x10
  | .timePair => 0x11
  | .wheelSet => 0x12
  | .wheelRead => 0x13
  | .imuLinkSet => 0x20
  | .imuBankWrite => 0x21
  | .imuBankRead => 0x22
  | .imuStart => 0x23
  | .imuStop => 0x24
  | .imuAccess => 0x25
  | .imuStatus => 0x26
  | .motionSet => 0x30
  | .biasSet => 0x31
  | .motionRead => 0x32
  | .lensSet => 0x40
  | .frameStart => 0x41
  | .frameStop => 0x42
  | .corrRead => 0x43
  | .frameStatus => 0x44
  | .cardSet => 0x50
  | .formatCatalogue => 0x51
  | .clipOpen => 0x52
  | .clipReserve => 0x53
  | .clipProgress => 0x54
  | .clipClose => 0x55
  | .clipDeleted => 0x56
  | .clipProtect => 0x57
  | .clipUnprotect => 0x58
  | .clipForget => 0x59
  | .clipRead => 0x5A
  | .clipList => 0x5B
  | .cardRead => 0x5C
  | .markUser => 0x60
  | .markRead => 0x61
  | .recoveryRead => 0x68
  | .recoveryClear => 0x69
  | .supplySet => 0x70
  | .supplyRead => 0x71
  | .railOn => 0x72
  | .railOff => 0x73
  | .chargeSet => 0x80
  | .chargeEnable => 0x81
  | .powerTableSet => 0x82
  | .powerClass => 0x83
  | .faultClear => 0x84
  | .chargeRead => 0x85
  | .gaugeSet => 0x86
  | .gaugeRead => 0x87

/-- Every kind of section 11.2 but FETCH. -/
def Kind.all : List Kind :=
  ([.identify, .noticeRead, .noticeMask, .policySet, .policyLock, .softReset, .timeRead, .timePair, .wheelSet] : List Kind)
  ++ ([.wheelRead, .imuLinkSet, .imuBankWrite, .imuBankRead, .imuStart, .imuStop, .imuAccess, .imuStatus, .motionSet] : List Kind)
  ++ ([.biasSet, .motionRead, .lensSet, .frameStart, .frameStop, .corrRead, .frameStatus, .cardSet, .formatCatalogue] : List Kind)
  ++ ([.clipOpen, .clipReserve, .clipProgress, .clipClose, .clipDeleted, .clipProtect, .clipUnprotect, .clipForget, .clipRead] : List Kind)
  ++ ([.clipList, .cardRead, .markUser, .markRead, .recoveryRead, .recoveryClear, .supplySet, .supplyRead, .railOn] : List Kind)
  ++ ([.railOff, .chargeSet, .chargeEnable, .powerTableSet, .powerClass, .faultClear, .chargeRead, .gaugeSet, .gaugeRead] : List Kind)

/-- Whether a kind byte names a request kind of chapter 11 (R194, step 1). -/
def Kind.known (code : Byte) : Bool :=
  Kind.all.any fun k => Kind.code k == code

/-- The fixed request body length of section 11.2. -/
def Kind.bodyLen : Kind → Nat
  | .noticeMask => 16
  | .policySet => 16
  | .wheelSet => 13
  | .imuLinkSet => 8
  | .imuBankWrite => 6
  | .imuBankRead => 1
  | .imuAccess => 3
  | .motionSet => 15
  | .biasSet => 6
  | .lensSet => 10
  | .frameStart => 18
  | .cardSet => 11
  | .clipReserve => 4
  | .clipProgress => 4
  | .clipClose => 4
  | .clipDeleted => 4
  | .clipProtect => 4
  | .clipUnprotect => 4
  | .clipForget => 4
  | .clipRead => 4
  | .clipList => 5
  | .markRead => 5
  | .recoveryClear => 4
  | .supplySet => 10
  | .railOff => 1
  | .chargeSet => 13
  | .chargeEnable => 1
  | .powerTableSet => 16
  | .powerClass => 1
  | .gaugeSet => 4
  | .identify => 0
  | .noticeRead => 0
  | .policyLock => 0
  | .softReset => 0
  | .timeRead => 0
  | .timePair => 0
  | .wheelRead => 0
  | .imuStart => 0
  | .imuStop => 0
  | .imuStatus => 0
  | .motionRead => 0
  | .frameStop => 0
  | .corrRead => 0
  | .frameStatus => 0
  | .formatCatalogue => 0
  | .clipOpen => 0
  | .cardRead => 0
  | .markUser => 0
  | .recoveryRead => 0
  | .supplyRead => 0
  | .railOn => 0
  | .faultClear => 0
  | .chargeRead => 0
  | .gaugeRead => 0

/-- The policy class of a kind, or none for a kind outside the table of section 10.4. -/
def Kind.policyClass : Kind → Option PolicyClass
  | .imuLinkSet => some .sensor
  | .imuBankWrite => some .sensor
  | .imuStart => some .sensor
  | .imuStop => some .sensor
  | .imuAccess => some .sensor
  | .motionSet => some .motion
  | .biasSet => some .motion
  | .lensSet => some .motion
  | .wheelSet => some .motion
  | .frameStart => some .frame
  | .frameStop => some .frame
  | .corrRead => some .frame
  | .clipOpen => some .record
  | .clipReserve => some .record
  | .clipProgress => some .record
  | .clipClose => some .record
  | .clipDeleted => some .record
  | .markUser => some .record
  | .cardSet => some .catalogue
  | .formatCatalogue => some .catalogue
  | .clipProtect => some .catalogue
  | .clipUnprotect => some .catalogue
  | .clipForget => some .catalogue
  | .recoveryClear => some .catalogue
  | .railOn => some .rails
  | .railOff => some .rails
  | .supplySet => some .rails
  | .powerClass => some .budget
  | .powerTableSet => some .budget
  | .chargeSet => some .charge
  | .chargeEnable => some .charge
  | .faultClear => some .charge
  | .gaugeSet => some .charge
  | .timeRead => none
  | .timePair => none
  | .wheelRead => none
  | .imuBankRead => none
  | .imuStatus => none
  | .motionRead => none
  | .frameStatus => none
  | .clipRead => none
  | .clipList => none
  | .cardRead => none
  | .markRead => none
  | .recoveryRead => none
  | .supplyRead => none
  | .chargeRead => none
  | .gaugeRead => none
  | .identify => none
  | .noticeRead => none
  | .noticeMask => none
  | .policySet => none
  | .policyLock => none
  | .softReset => none

/-- The kinds fixed to Port B (R194, step 3). -/
def Kind.portBOnly : Kind → Bool
  | .policySet | .policyLock | .softReset => true
  | _ => false

end Sys2Proof
end

