-- ==== Sys2Proof/Machine/Types.lean ====
section
/-! DEFINITION. The pieces of state of the sixteen blocks, one structure a block or part of a block, as
plain data. Defaults.lean gives their values after POR; State.lean puts them together. -/

namespace Sys2Proof.Machine

/-- A time stamp (R4): the pair of an epoch and a tick. -/
structure Stamp where
  epoch : Epoch
  tick  : Tick
  deriving DecidableEq, Repr

/-- A timer (R3): its due tick while it runs, none while it does not. -/
abbrev Timer := Option Tick

/-- A timer whose due tick is chosen again from its start (R144, R147). -/
structure SpanTimer where
  start : Tick
  due   : Tick
  deriving DecidableEq, Repr

/-- One value for each camera axis (section 3.2). -/
structure Axes (α : Type) where
  yaw   : α
  pitch : α
  roll  : α
  deriving DecidableEq, Repr

/-- Which request in flight: the port whose slot took it, and which taking of that slot it belongs to
(R191). -/
structure Ticket where
  port   : Port
  taking : Nat
  deriving DecidableEq, Repr

/-! ### Chapter 1 -/

/-- The six capture channels of section 1.3 by name. -/
inductive Channel where
  | fst | fen | drdy | synca | syncb | wheel
  deriving DecidableEq, Repr

/-- The held capture of each channel (R6). -/
structure Channels where
  fst   : Option Tick
  fen   : Option Tick
  drdy  : Option Tick
  synca : Option Tick
  syncb : Option Tick
  wheel : Option Tick
  deriving DecidableEq, Repr

/-- The qualifier's pending change (R8). -/
structure PendingChange where
  level : Level
  start : Tick
  deriving DecidableEq, Repr

/-- The WHEEL qualifier (R8), with the raw input's level. -/
structure Qualifier where
  raw       : Level
  qualified : Level
  change    : Option PendingChange
  deriving DecidableEq, Repr

/-- The Wheel Meter (section 1.5). -/
structure WheelMeter where
  prev   : Option Tick
  period : Option Nat
  stop   : Timer
  band   : Fin 4
  w1     : Nat
  w2     : Nat
  w3     : Nat
  q      : Nat
  deriving DecidableEq, Repr

/-- One port's time pairing (R9): armed for the TIME_PAIR of a taking, and its timeout. -/
structure Pairing where
  armed   : Option Nat
  timeout : Timer
  deriving DecidableEq, Repr

/-- A period and a width, as a staged update holds them (R18). -/
structure Pulse where
  period : Nat
  width  : Nat
  deriving DecidableEq, Repr

/-- A pulse generator (section 1.6). -/
structure Generator where
  running : Bool
  period  : Nat
  width   : Nat
  start   : Tick
  staged  : Option Pulse
  output  : Level
  deriving DecidableEq, Repr

/-! ### Chapter 2 -/

/-- The states of the Motion Sensor Link (section 2.1). -/
inductive LinkState where
  | off | powering | configuring | running | recovering | failed
  deriving DecidableEq, Repr

/-- The sample byte order (R21). -/
inductive ByteOrder where
  | little | big
  deriving DecidableEq, Repr

/-- The link settings (R20). -/
structure LinkSettings where
  idAddr     : Byte
  idValue    : Byte
  sampleAddr : Byte
  order      : ByteOrder
  pImu       : Nat
  deriving DecidableEq, Repr

/-- One entry of the configuration bank (section 2.3). -/
structure BankEntry where
  valid  : Bool
  addr   : Byte
  value  : Byte
  verify : Bool
  locked : Bool
  deriving DecidableEq, Repr

/-- An IMU_ACCESS in flight (R35). -/
structure Access where
  ticket : Ticket
  write  : Bool
  addr   : Byte
  data   : Byte
  deriving DecidableEq, Repr

/-- What the IMU bus carries (R21): nothing, or one of the five transfers. -/
inductive Bus where
  | free
  | identityRead
  | bankWrite (i : Fin 32)
  | verifyRead (i : Fin 32)
  | sampleBurst (capture : Tick) (gap : Bool)
  | passThrough (a : Access)
  deriving DecidableEq, Repr

/-- The Motion Sensor Link (chapter 2). -/
structure Link where
  state    : LinkState
  attempts : Nat
  gaps     : Nat
  settings : LinkSettings
  bank     : Vector BankEntry 32
  bus      : Bus
  first    : Bool
  queue    : List Access
  replaced : Bool
  startup  : Timer
  recovery : Timer
  stall    : Timer
  deriving DecidableEq, Repr

/-! ### Chapter 3 -/

/-- A source axis of the sensor (R40). -/
inductive SrcAxis where
  | x | y | z
  deriving DecidableEq, Repr

/-- One entry of the axis map (R40): a source axis and a sign. -/
structure AxisMap where
  src   : SrcAxis
  minus : Bool
  deriving DecidableEq, Repr

/-- The six settings MOTION_SET writes (R57). -/
structure MotionSettings where
  gain  : Nat
  map   : Axes AxisMap
  leak  : Vector Nat 4
  still : Nat
  shock : Nat
  crash : Nat
  deriving DecidableEq, Repr

/-- An ACTIVE shock episode (R50). -/
structure Episode where
  start : Tick
  peak  : Nat
  band  : Fin 4
  quiet : Nat
  deriving DecidableEq, Repr

/-- A crash watch in progress (R53). -/
structure Watch where
  start     : Tick
  peak      : Nat
  run       : Nat
  committed : Bool
  timer     : Timer
  deriving DecidableEq, Repr

/-- One entry of the sample history (section 3.6). -/
structure HistEntry where
  tick    : Tick
  acc     : Axes Int
  restart : Bool
  pinned  : Axes Bool
  deriving DecidableEq, Repr

/-- The Motion Integrator (chapter 3). -/
structure Motion where
  settings   : MotionSettings
  bias       : Axes Int
  acc        : Axes Int
  limit      : Axes Nat
  prev       : Option Tick
  stillCount : Nat
  stillSum   : Axes Int
  episode    : Option Episode
  watch      : Option Watch
  history    : List HistEntry
  deriving DecidableEq, Repr

/-! ### Chapter 4 -/

/-- The lens settings (R60). -/
structure Lens where
  fx    : Nat
  fy    : Nat
  mx    : Nat
  my    : Nat
  mroll : Nat
  deriving DecidableEq, Repr

/-- The frame states (section 4.2). -/
inductive FrameState where
  | idle | armed | tracking
  deriving DecidableEq, Repr

/-- The frame parameters FRAME_START gives (R61). -/
structure FrameParams where
  period    : Nat
  width     : Nat
  bands     : Nat
  rCfg      : Nat
  window    : Nat
  watermark : Nat
  deriving DecidableEq, Repr

/-- The current frame (R63): trigger tick, window timer, S_n, FEN-taken indication. -/
structure CurFrame where
  trigger  : Tick
  window   : Timer
  sn       : Option Tick
  fenTaken : Bool
  deriving DecidableEq, Repr

/-- A pending band (R67). Its deadline timer runs until its expiry is taken. -/
structure Band where
  frame    : FrameNo
  index    : Nat
  time     : Tick
  deadline : Timer
  deriving DecidableEq, Repr

/-- A correction record (R74). -/
structure CorrRec where
  frame         : FrameNo
  band          : Nat
  time          : Tick
  formed        : Tick
  dx            : Int
  dy            : Int
  droll         : Int
  stale         : Bool
  noMotion      : Bool
  pinned        : Bool
  clamped       : Bool
  shock         : Bool
  droppedBefore : Bool
  deriving DecidableEq, Repr

/-- The Frame Tracker and the Correction Queue (chapter 4). -/
structure Frames where
  lens   : Lens
  state  : FrameState
  params : FrameParams
  n      : FrameNo
  opened : Bool
  rEst   : Nat
  cur    : Option CurFrame
  bands  : List Band
  queue  : List CorrRec
  deriving DecidableEq, Repr

/-! ### Chapters 5 and 6 -/

/-- The card settings (R82). -/
structure Card where
  serial   : Nat
  capacity : Nat
  loop     : Bool
  floor    : Nat
  deriving DecidableEq, Repr

/-- The states of a clip record (R86). -/
inductive ClipState where
  | opened | closed | cut | recycling
  deriving DecidableEq, Repr

/-- Protection (R87). -/
inductive Protection where
  | none | user | crash
  deriving DecidableEq, Repr

/-- The cause of a seal (R134, R128). -/
inductive CutCause where
  | holdExpired | hardCut | forced | unsealed
  deriving DecidableEq, Repr

/-- The kinds of mark (R112). -/
inductive MarkKind where
  | shock | crash | user
  deriving DecidableEq, Repr

/-- A mark in its clip's list (R112); its clip number is the record's (log 9). -/
structure Mark where
  kind : MarkKind
  time : Stamp
  peak : Option Nat
  band : Fin 4
  deriving DecidableEq, Repr

/-- A clip record (R85) with its list of marks (R113). -/
structure Clip where
  number      : Nat
  state       : ClipState
  protection  : Protection
  start       : Stamp
  startFrame  : Option FrameNo
  ending      : Option Stamp
  committed   : Nat
  reserved    : Nat
  frameCount  : Option Nat
  staleBands  : Nat
  pinnedBands : Nat
  marks       : List Mark
  truncated   : Bool
  cutCause    : Option CutCause
  deriving DecidableEq, Repr

/-- The Clip Catalogue with the Mark Pool (chapters 5 and 6). -/
structure Catalogue where
  card        : Card
  clips       : List Clip
  reservation : Option Nat
  nextClip    : Nat
  deriving DecidableEq, Repr

/-! ### Chapters 7 to 9 -/

/-- The states of the Charge Controller (section 9.4). -/
inductive ChargeState where
  | off | qualify | precharge | cc | cv | done | paused | fault
  deriving DecidableEq, Repr

/-- The recovery cause (R130). -/
inductive RecoveryCause where
  | intact | cutPresent | lost
  deriving DecidableEq, Repr

/-- The cut record (R135). -/
structure CutRec where
  number    : Nat
  committed : Nat
  time      : Stamp
  vbat      : Option Nat
  charge    : Option ChargeState
  cause     : CutCause
  deriving DecidableEq, Repr

/-- The write gate (R132). -/
inductive Gate where
  | opened | closed
  deriving DecidableEq, Repr

/-- The Retained Store's own items (chapter 7), and whether VSYS is present. -/
structure Store where
  vsys       : Bool
  latch      : Bool
  epoch      : Epoch
  cut        : Option CutRec
  cause      : RecoveryCause
  comparator : Level
  gate       : Gate
  deriving DecidableEq, Repr

/-- The measurement table (R141), with the tick of the round that wrote it (R156). -/
structure MeasTable where
  tick : Tick
  vin  : Nat
  iin  : Nat
  vbat : Nat
  ibat : Int
  tbat : Nat
  vbkp : Nat
  deriving DecidableEq, Repr

/-- The input state (R142). -/
inductive InputState where
  | absent | present
  deriving DecidableEq, Repr

/-- The supply state (section 8.3). -/
inductive SupplyState where
  | normal | finishing | shutdown
  deriving DecidableEq, Repr

/-- The supply settings (R145). -/
structure SupplySettings where
  vWarn  : Nat
  vCut   : Nat
  vStart : Nat
  hold   : Nat
  deriving DecidableEq, Repr

/-- The media rail (section 8.4). RAMPING keeps which RAIL_ON is in flight. -/
inductive Rail where
  | off
  | ramping (owner : Ticket)
  | on
  deriving DecidableEq, Repr

/-- The Measurement Sequencer, the Supply Monitor and the media rail (chapter 8). -/
structure Supply where
  table    : Option MeasTable
  input    : InputState
  decided  : Bool
  present  : Timer
  ride     : Option SpanTimer
  state    : SupplyState
  debounce : Option SpanTimer
  hold     : Timer
  settings : SupplySettings
  pwrfail  : Level
  rail     : Rail
  ramp     : Timer
  deriving DecidableEq, Repr

/-- The charge settings (R159). -/
structure ChargeSettings where
  iLim   : Nat
  iCc    : Nat
  iPre   : Nat
  iTerm  : Nat
  vCv    : Nat
  safety : Nat
  rBase  : Nat
  deriving DecidableEq, Repr

/-- The thermistor condition (R163). -/
inductive Therm where
  | valid | short | opened
  deriving DecidableEq, Repr

/-- The thermal zones (R164). -/
inductive Zone where
  | cold | cool | normal | warm | hot | unknown
  deriving DecidableEq, Repr

/-- The causes of a charge fault (R174). -/
inductive FaultCause where
  | thermistorShort | thermistorOpen | overvoltage | prechargeTime | safetyTime
  deriving DecidableEq, Repr

/-- The fault snapshot (R174). -/
structure Snapshot where
  previous : ChargeState
  cause    : FaultCause
  vbat     : Nat
  ibat     : Int
  temp     : Option Int
  target   : Nat
  safety   : Nat
  deriving DecidableEq, Repr

/-- The Charge Controller (chapter 9). -/
structure Charge where
  settings  : ChargeSettings
  enable    : Bool
  table     : Vector Nat 8
  cls       : Fin 8
  temp      : Option Int
  therm     : Option Therm
  zone      : Zone
  state     : ChargeState
  resume    : Option ChargeState
  qual      : Timer
  safety    : Nat
  term      : Nat
  avail     : Nat
  budget    : Nat
  trim      : Int
  cv        : Int
  ceiling   : Nat
  target    : Nat
  isetWidth : Nat
  snapshot  : Option Snapshot
  deriving DecidableEq, Repr

/-- The Gauge (section 9.6). -/
structure Gauge where
  acc        : Nat
  capacity   : Nat
  calibrated : Bool
  deriving DecidableEq, Repr

/-! ### Chapter 10 -/

/-- The statuses an answer can hold (section 11.3). BUSY has no code and is no constructor. -/
inductive Status where
  | ok | none | pending | unknownKind | badLength | badValue | denied | wrongState | full | notFound
  | tooLate | timeout | recycleNeeded | gateClosed | clipOpen | lowBattery
  deriving DecidableEq, Repr

/-- An answer (R195): the status, the kind byte echoed, the body. -/
structure Answer where
  status : Status
  kind   : Byte
  body   : List Byte
  deriving DecidableEq, Repr

/-- A port's slot (R190): EMPTY, WORKING for the kind byte and taking given, or ANSWERED. -/
inductive Slot where
  | empty
  | working (kind : Byte) (taking : Nat)
  | answered (answer : Answer)
  deriving DecidableEq, Repr

/-- The sixteen notice kinds (section 10.5), in the order of their bits (section 11.5). -/
inductive Notice where
  | corrReady | frameMissed | recycle | reserveGranted | reserveFailed | shock | sealed | chargeState
  | chargeFault | inputChanged | recovery | imuRecovered | imuFailed | crash | supplyLow | supplyOk
  deriving DecidableEq, Repr

/-- The three states of a slot (R190), as Port A's slot-state byte tells them (R206). -/
inductive SlotState where
  | empty | working | answered
  deriving DecidableEq, Repr

/-- Which states a port's slot has left since the port's latest transfer, other than by a transfer: what a
request transfer that ends now may have met at its kind byte (R189). -/
structure Earlier where
  working  : Bool
  answered : Bool
  deriving DecidableEq, Repr

/-- One request port (chapter 10). -/
structure PortState where
  slot    : Slot
  earlier : Earlier
  takings : Nat
  notices : BitVec 16
  mask    : BitVec 16
  attn    : Level
  sent    : List Byte
  busy    : Bool
  deriving DecidableEq, Repr

/-- One port's eight entries of the policy table: true is ALLOWED (R196). -/
structure PolicyRow where
  sensor    : Bool
  motion    : Bool
  frame     : Bool
  record    : Bool
  catalogue : Bool
  rails     : Bool
  budget    : Bool
  charge    : Bool
  deriving DecidableEq, Repr

/-- The policy table (R197). -/
structure PolicyTable where
  a : PolicyRow
  b : PolicyRow
  deriving DecidableEq, Repr

end Sys2Proof.Machine
end

