-- ==== Sys2Proof/Machine/Defaults.lean ====
section
/-! DEFINITION. What each block holds after POR, apart from the retained items (Retained.lean). -/

namespace Sys2Proof.Machine

/-- R7: at POR every channel is empty; SOFT_RESET leaves every channel empty. -/
def Channels.none : Channels :=
  { fst := .none, fen := .none, drdy := .none, synca := .none, syncb := .none, wheel := .none }

/-- R8: at POR and SOFT_RESET the qualified level is the raw input's level, with no pending change. -/
def Qualifier.atReset (raw : Level) : Qualifier :=
  { raw := raw, qualified := raw, change := none }

/-- R15: the Wheel Meter after POR and after SOFT_RESET. -/
def WheelMeter.atReset : WheelMeter :=
  { prev := none, period := none, stop := none, band := 0
    w1 := 1048576, w2 := 419430, w3 := 209715, q := 32 }

/-- R10: both channels disarmed and both timeouts cancelled. -/
def Pairing.disarmed : Pairing := { armed := none, timeout := none }

/-- R16: both generators STOPPED, output low, nothing staged. Period, width and start are meaningless
while STOPPED (DESIGN CHOICE 0, log 8; unsafe). -/
def Generator.stopped : Generator :=
  { running := false, period := 0, width := 0, start := 0, staged := none, output := .low }

/-- R20: the link settings POR sets. -/
def LinkSettings.default : LinkSettings :=
  { idAddr := 1, idValue := 0xA7, sampleAddr := 32, order := .little, pImu := 328 }

/-- R22: at POR every entry is made invalid, with its other fields zero. -/
def BankEntry.invalid : BankEntry :=
  { valid := false, addr := 0, value := 0, verify := false, locked := false }

/-- R38: the link at POR. -/
def Link.atPor : Link :=
  { state := .off, attempts := 0, gaps := 0, settings := LinkSettings.default
    bank := Vector.replicate 32 BankEntry.invalid, bus := .free, first := false, queue := []
    replaced := false, startup := none, recovery := none, stall := none }

/-- The settings of the integrator after POR (head of chapter 3). -/
def MotionSettings.default : MotionSettings :=
  { gain := 1024
    map := { yaw := ⟨.z, false⟩, pitch := ⟨.x, false⟩, roll := ⟨.y, false⟩ }
    leak := #v[14, 12, 11, 10], still := 48, shock := 16384, crash := 30000 }

/-- R60: the lens settings' defaults. -/
def Lens.default : Lens := { fx := 256, fy := 256, mx := 1536, my := 1536, mroll := 1280 }

/-- R44: the angle limits derived from the lens settings. -/
def Lens.limits (l : Lens) : Axes Nat :=
  { yaw := l.mx * 2 ^ 24 / l.fx, pitch := l.my * 2 ^ 24 / l.fy, roll := l.mroll * 2 ^ 16 }

/-- The same value for every axis. -/
def Axes.all {α : Type} (x : α) : Axes α := { yaw := x, pitch := x, roll := x }

/-- R59: the integrator at POR; SOFT_RESET sets the same values but keeps the six settings and the
limits. -/
def Motion.atReset (settings : MotionSettings) (limit : Axes Nat) : Motion :=
  { settings := settings, bias := Axes.all 0, acc := Axes.all 0, limit := limit, prev := none
    stillCount := 0, stillSum := Axes.all 0, episode := none, watch := none, history := [] }

/-- R79: "in IDLE after a reset the frame parameters are reported as 0, except the watermark". -/
def FrameParams.none : FrameParams :=
  { period := 0, width := 0, bands := 0, rCfg := 0, window := 0, watermark := 16 }

/-- R81: the Frame Tracker after POR; SOFT_RESET sets the same values and keeps the lens settings. -/
def Frames.atReset (lens : Lens) : Frames :=
  { lens := lens, state := .idle, params := FrameParams.none, n := 0, opened := false, rEst := 0
    cur := .none, bands := [], queue := [] }

/-- R82: the card settings when retention has been lost, and after FORMAT_CATALOGUE (R84). -/
def Card.none : Card := { serial := 0, capacity := 0, loop := false, floor := 0 }

/-- R111, R123, R129: the catalogue and the pool when retention has been lost. -/
def Catalogue.initial : Catalogue :=
  { card := Card.none, clips := [], reservation := .none, nextClip := 1 }

/-- R145: the supply settings POR sets. -/
def SupplySettings.default : SupplySettings :=
  { vWarn := 3300, vCut := 3000, vStart := 3450, hold := 524288 }

/-- R157: the Supply Monitor at POR. -/
def Supply.atPor : Supply :=
  { table := none, input := .absent, decided := false, present := none, ride := none, state := .normal
    debounce := none, hold := none, settings := SupplySettings.default, pwrfail := .low, rail := .off
    ramp := none }

/-- R159: the charge settings POR sets. -/
def ChargeSettings.default : ChargeSettings :=
  { iLim := 500, iCc := 1720, iPre := 128, iTerm := 86, vCv := 4200, safety := 4, rBase := 60 }

/-- R186: the Charge Controller at POR. -/
def Charge.atPor : Charge :=
  { settings := ChargeSettings.default, enable := true
    table := #v[150, 600, 900, 1200, 1500, 1900, 2200, 2500], cls := 0, temp := none, therm := none
    zone := .unknown, state := .off, resume := none, qual := none, safety := 0, term := 0, avail := 0
    budget := 0, trim := 0, cv := 0, ceiling := 0, target := 0, isetWidth := 0, snapshot := none }

/-- R182: the Gauge at POR. -/
def Gauge.atPor : Gauge := { acc := 0, capacity := 1720, calibrated := false }

/-- A slot that has left no state since the port's latest transfer. -/
def Earlier.none : Earlier := { working := false, answered := false }

/-- A port at POR (head of chapter 10), before the RECOVERY notice is raised. -/
def PortState.atPor : PortState :=
  { slot := .empty, earlier := Earlier.none, takings := 0, notices := 0, mask := 0xFFFF, attn := .low, sent := []
    busy := false }

/-- R196, section 10.4: Port A's default permissions. -/
def PolicyRow.defaultA : PolicyRow :=
  { sensor := true, motion := true, frame := true, record := true, catalogue := false, rails := false
    budget := true, charge := false }

/-- R196, section 10.4: Port B's default permissions. -/
def PolicyRow.defaultB : PolicyRow :=
  { sensor := true, motion := true, frame := true, record := true, catalogue := true, rails := true
    budget := true, charge := true }

/-- R196: the policy table at POR. -/
def PolicyTable.default : PolicyTable := { a := PolicyRow.defaultA, b := PolicyRow.defaultB }

end Sys2Proof.Machine
end

