-- ==== Sys2Proof/Machine/State.lean ====
section
/-! DEFINITION. The state of the part, its reset, and the reasons a step can stop. -/

namespace Sys2Proof.Machine

/-- The whole state: the tick counter, the blocks, the ports, and the commands that wait. -/
structure State where
  tick      : Tick
  channels  : Channels
  qualifier : Qualifier
  wheel     : WheelMeter
  pairA     : Pairing
  pairB     : Pairing
  ftrig     : Generator
  iset      : Generator
  link      : Link
  motion    : Motion
  frames    : Frames
  catalogue : Catalogue
  store     : Store
  supply    : Supply
  charge    : Charge
  gauge     : Gauge
  portA     : PortState
  portB     : PortState
  policy    : PolicyTable
  locked    : Bool
  pending   : List Instr
  deriving DecidableEq, Repr

/-- The reasons the part stops with a fault. There is none: the spec describes no behaviour in which the
part stops, and every refused request is an answer with a status (section 10.8). Safe. -/
inductive Fault where
  deriving DecidableEq, Repr

/-- The reasons a command has no meaning in the model. -/
inductive Refusal where
  /-- Raised by an arm of `exec` whose command has no meaning yet; no arm raises it now. Safe. -/
  | notModelled (mnemonic : String)
  deriving DecidableEq, Repr

/-- The part right after the POR of a new board: the latch was found CLEAR (R125), so every retained item
is initialised (R129), the recovery cause is LOST and RECOVERY waits on Port B (R130) with ATTNB high
(R200). VSYS is above 3100 mV and the WHEEL input low (DESIGN CHOICE, log 7; unsafe). -/
def State.reset : State where
  tick := 0
  channels := Channels.none
  qualifier := Qualifier.atReset .low
  wheel := WheelMeter.atReset
  pairA := Pairing.disarmed
  pairB := Pairing.disarmed
  ftrig := Generator.stopped
  iset := Generator.stopped
  link := Link.atPor
  motion := Motion.atReset MotionSettings.default Lens.default.limits
  frames := Frames.atReset Lens.default
  catalogue := Catalogue.initial
  store := { vsys := true, latch := true, epoch := 0, cut := none, cause := .lost, comparator := .high,
             gate := .opened }
  supply := Supply.atPor
  charge := Charge.atPor
  gauge := Gauge.atPor
  portA := PortState.atPor
  portB := { PortState.atPor with notices := 0x0400, attn := .high }
  policy := PolicyTable.default
  locked := false
  pending := []

end Sys2Proof.Machine
end

