-- ==== Sys2Proof/Machine/Arith.lean ====
section
/-! DEFINITION. Ticks (R2, R3), the three roundings, saturation and clamping (00_scope.md, Conventions). -/

namespace Sys2Proof.Machine

/-- R2: the distance from tick `b` to tick `a`, (a − b) modulo 2^48. -/
def dist (a b : Tick) : Nat := (a - b).toNat

/-- R2: tick `a` is at or after tick `b` when the distance from `b` to `a` is below 2^47. -/
def atOrAfter (a b : Tick) : Bool := decide (dist a b < 2 ^ 47)

/-- R3: the tick a span `d` after tick `t`, (t + d) modulo 2^48. -/
def later (t : Tick) (d : Nat) : Tick := t + BitVec.ofNat 48 d

/-- Nearest of `n / d`: the closest integer, halves rounded away from zero. -/
def nearest (n : Int) (d : Nat) : Int :=
  let m : Int := ((2 * n.natAbs + d) / (2 * d) : Nat)
  if n < 0 then -m else m

/-- Truncate of `n / d`: toward zero. -/
def truncDiv (n : Int) (d : Nat) : Int := Int.tdiv n d

/-- Saturate `x` to ±`bound`, keeping its sign. -/
def saturate (bound : Nat) (x : Int) : Int := max (-(bound : Int)) (min bound x)

/-- Clamp a natural number to `lo`…`hi`. -/
def clamp (lo hi x : Nat) : Nat := max lo (min hi x)

/-- Clamp an integer to `lo`…`hi`. -/
def clampInt (lo hi x : Int) : Int := max lo (min hi x)

end Sys2Proof.Machine
end

