-- ==== Sys2Proof/Machine/Operands.lean ====
section
/-! DEFINITION. The bytes of request and answer bodies (R207, sections 11.3 to 11.5): reading the fields of
a request body, and writing fields, codes and records into an answer body. -/

namespace Sys2Proof.Machine

/-! ### Fields -/

/-- The number a list of bytes spells, most significant byte first (R207). -/
def beNat (bs : List Byte) : Nat := bs.foldl (fun acc b => acc * 256 + b.toNat) 0

/-- `n` in `w` bytes, most significant byte first (R207). -/
def beBytes : Nat → Nat → List Byte
  | 0, _ => []
  | w + 1, n => beBytes w (n / 256) ++ [BitVec.ofNat 8 n]

/-- `i` in `w` bytes, two's complement (R207). -/
def beInt (w : Nat) (i : Int) : List Byte := beBytes w (i % (2 ^ (8 * w) : Nat)).toNat

/-- The unsigned field of `w` bytes at offset `off` of a body. -/
def field (body : List Byte) (off w : Nat) : Nat := beNat ((body.drop off).take w)

/-- The signed field of `w` bytes at offset `off` of a body. -/
def fieldInt (body : List Byte) (off w : Nat) : Int :=
  let n := field body off w
  if n < 2 ^ (8 * w - 1) then n else (n : Int) - (2 ^ (8 * w) : Nat)

/-- The byte at offset `off` of a body. -/
def byteAt (body : List Byte) (off : Nat) : Byte := body.getD off 0

/-- A yes/no byte whose rule names no check: "a non-zero byte is taken as 1" (R207). -/
def flagAt (body : List Byte) (off : Nat) : Bool := byteAt body off != 0

/-- A yes/no, on/off, set/clear, enabled/disabled or allowed/denied byte: 1 for the first value, 0 for the
second (R207). -/
def encBool (b : Bool) : List Byte := [if b then 1 else 0]

/-- A level: LOW 0, HIGH 1. -/
def encLevel (l : Level) : List Byte := [match l with | .low => 0 | .high => 1]

/-- A tick: 6 bytes. -/
def encTick (t : Tick) : List Byte := beBytes 6 t.toNat

/-- A time stamp: epoch, then tick, 8 bytes. -/
def encStamp (s : Stamp) : List Byte := beBytes 2 s.epoch.toNat ++ encTick s.tick

/-- An optional field outside the records of section 11.5: a presence byte, then the field in full width,
zeros when absent (R207). `w` is the field's width. -/
def encOpt {α : Type} (w : Nat) (enc : α → List Byte) : Option α → List Byte
  | some x => 1 :: enc x
  | none => 0 :: List.replicate w 0

/-! ### Codes (R207: "numbered from 0 in the order in which its owning rule or table lists the values") -/

/-- The status code of section 11.3. -/
def Status.code : Status → Byte
  | .ok => 0x00 | .none => 0x01 | .pending => 0x02
  | .unknownKind => 0x10 | .badLength => 0x11 | .badValue => 0x12 | .denied => 0x13 | .wrongState => 0x14
  | .full => 0x15 | .notFound => 0x16 | .tooLate => 0x17 | .timeout => 0x18 | .recycleNeeded => 0x19
  | .gateClosed => 0x1A | .clipOpen => 0x1B | .lowBattery => 0x1C

/-- Link states in the order of section 2.1. -/
def LinkState.code : LinkState → Byte
  | .off => 0 | .powering => 1 | .configuring => 2 | .running => 3 | .recovering => 4 | .failed => 5

/-- LITTLE 0, BIG 1 (R207). -/
def ByteOrder.code : ByteOrder → Byte
  | .little => 0 | .big => 1

/-- Axis-map entry (R207): the low seven bits name the source axis, the top bit is minus. -/
def AxisMap.code (m : AxisMap) : Byte :=
  (match m.src with | .x => 0 | .y => 1 | .z => 2) ||| (if m.minus then 0x80 else 0)

/-- Reading an axis-map entry; none where the low seven bits name no axis (R40). -/
def AxisMap.read (b : Byte) : Option AxisMap :=
  let minus := b.msb
  if b &&& 0x7F = 0 then some ⟨.x, minus⟩
  else if b &&& 0x7F = 1 then some ⟨.y, minus⟩
  else if b &&& 0x7F = 2 then some ⟨.z, minus⟩
  else none

/-- Frame states in the order of section 4.2. -/
def FrameState.code : FrameState → Byte
  | .idle => 0 | .armed => 1 | .tracking => 2

/-- Clip states in the order of R85. -/
def ClipState.code : ClipState → Byte
  | .opened => 0 | .closed => 1 | .cut => 2 | .recycling => 3

/-- Protections in the order of R85. -/
def Protection.code : Protection → Byte
  | .none => 0 | .user => 1 | .crash => 2

/-- Cut causes in the order of R85 and R135. -/
def CutCause.code : CutCause → Byte
  | .holdExpired => 0 | .hardCut => 1 | .forced => 2 | .unsealed => 3

/-- Mark kinds in the order of R112. -/
def MarkKind.code : MarkKind → Byte
  | .shock => 0 | .crash => 1 | .user => 2

/-- Charge states in the order of the table at the head of chapter 9. The resume state and the fault
snapshot's previous state use the same codes (DEDUCED, log 12; unsafe). -/
def ChargeState.code : ChargeState → Byte
  | .off => 0 | .qualify => 1 | .precharge => 2 | .cc => 3 | .cv => 4 | .done => 5 | .paused => 6
  | .fault => 7

/-- Recovery causes in the order of the table at the head of chapter 7 (R130's table lists them in the
reverse order; DEDUCED, log 12; unsafe). -/
def RecoveryCause.code : RecoveryCause → Byte
  | .intact => 0 | .cutPresent => 1 | .lost => 2

/-- Gate states in the order of R132. -/
def Gate.code : Gate → Byte
  | .opened => 0 | .closed => 1

/-- Input states in the order of chapter 8's table. -/
def InputState.code : InputState → Byte
  | .absent => 0 | .present => 1

/-- Supply states in the order of chapter 8's table. -/
def SupplyState.code : SupplyState → Byte
  | .normal => 0 | .finishing => 1 | .shutdown => 2

/-- Media rail states in the order of chapter 8's table. -/
def Rail.code : Rail → Byte
  | .off => 0 | .ramping _ => 1 | .on => 2

/-- Thermistor conditions in the order of the table at the head of chapter 9 (DEDUCED, log 12; unsafe). -/
def Therm.code : Therm → Byte
  | .valid => 0 | .short => 1 | .opened => 2

/-- Zones in the order of the table at the head of chapter 9. -/
def Zone.code : Zone → Byte
  | .cold => 0 | .cool => 1 | .normal => 2 | .warm => 3 | .hot => 4 | .unknown => 5

/-- Fault causes in the order of R174. -/
def FaultCause.code : FaultCause → Byte
  | .thermistorShort => 0 | .thermistorOpen => 1 | .overvoltage => 2 | .prechargeTime => 3
  | .safetyTime => 4

/-- Ports in the order A, B (R205). -/
def Port.code : Port → Byte
  | .a => 0 | .b => 1

/-! ### Groups of settings, in the order their rule lists them -/

/-- The five link settings, 8 bytes (R20). -/
def LinkSettings.enc (l : LinkSettings) : List Byte :=
  [l.idAddr, l.idValue, l.sampleAddr, l.order.code] ++ beBytes 4 l.pImu

/-- One bank entry's five fields, 5 bytes (section 2.3). -/
def BankEntry.enc (e : BankEntry) : List Byte :=
  encBool e.valid ++ [e.addr, e.value] ++ encBool e.verify ++ encBool e.locked

/-- The six motion settings, 15 bytes (R57). -/
def MotionSettings.enc (m : MotionSettings) : List Byte :=
  beBytes 2 m.gain ++ [m.map.yaw.code, m.map.pitch.code, m.map.roll.code]
  ++ m.leak.toList.flatMap (beBytes 1) ++ beBytes 2 m.still ++ beBytes 2 m.shock ++ beBytes 2 m.crash

/-- The five lens settings, 10 bytes (R60). -/
def Lens.enc (l : Lens) : List Byte :=
  beBytes 2 l.fx ++ beBytes 2 l.fy ++ beBytes 2 l.mx ++ beBytes 2 l.my ++ beBytes 2 l.mroll

/-- The six frame parameters, 18 bytes (R61). -/
def FrameParams.enc (p : FrameParams) : List Byte :=
  beBytes 4 p.period ++ beBytes 4 p.width ++ beBytes 1 p.bands ++ beBytes 4 p.rCfg
  ++ beBytes 4 p.window ++ beBytes 1 p.watermark

/-- The four card settings, 11 bytes (R82). -/
def Card.enc (c : Card) : List Byte :=
  beBytes 4 c.serial ++ beBytes 4 c.capacity ++ encBool c.loop ++ beBytes 2 c.floor

/-- The four supply settings, 10 bytes (R145). -/
def SupplySettings.enc (x : SupplySettings) : List Byte :=
  beBytes 2 x.vWarn ++ beBytes 2 x.vCut ++ beBytes 2 x.vStart ++ beBytes 4 x.hold

/-- The seven charge settings, 13 bytes (R159). -/
def ChargeSettings.enc (c : ChargeSettings) : List Byte :=
  beBytes 2 c.iLim ++ beBytes 2 c.iCc ++ beBytes 2 c.iPre ++ beBytes 2 c.iTerm ++ beBytes 2 c.vCv
  ++ beBytes 1 c.safety ++ beBytes 2 c.rBase

/-- The eight class-table currents, 16 bytes (R161). -/
def encClassTable (t : Vector Nat 8) : List Byte := t.toList.flatMap (beBytes 2)

/-- The wheel settings, 13 bytes (R14). -/
def WheelMeter.encSettings (w : WheelMeter) : List Byte :=
  beBytes 1 w.q ++ beBytes 4 w.w1 ++ beBytes 4 w.w2 ++ beBytes 4 w.w3

/-- A policy row in the order of section 10.4, SENSOR to CHARGE. -/
def PolicyRow.toList (r : PolicyRow) : List Bool :=
  [r.sensor, r.motion, r.frame, r.record, r.catalogue, r.rails, r.budget, r.charge]

/-- The policy table, sixteen bytes, Port A's classes first (R197). -/
def PolicyTable.enc (t : PolicyTable) : List Byte :=
  (t.a.toList ++ t.b.toList).flatMap encBool

/-- A variable list of clip numbers: a one-byte count, then the items (R207). -/
def encClipNumbers (ns : List Nat) : List Byte := beBytes 1 ns.length ++ ns.flatMap (beBytes 4)

/-! ### Records of section 11.5 -/

/-- Eight flags as one byte, the first in bit 0. -/
def flagByte (flags : List Bool) : Byte :=
  BitVec.ofNat 8 (flags.foldr (fun f acc => 2 * acc + (if f then 1 else 0)) 0)

/-- The correction record, 24 bytes. -/
def CorrRec.enc (r : CorrRec) : List Byte :=
  beBytes 4 r.frame.toNat ++ beBytes 1 r.band
  ++ [flagByte [r.stale, r.noMotion, r.pinned, r.clamped, r.shock, r.droppedBefore]]
  ++ encTick r.time ++ encTick r.formed ++ beInt 2 r.dx ++ beInt 2 r.dy ++ beInt 2 r.droll

/-- The clip record, 45 bytes. -/
def Clip.enc (c : Clip) : List Byte :=
  beBytes 4 c.number ++ [c.state.code, c.protection.code]
  ++ [flagByte [c.startFrame.isSome, c.ending.isSome, c.frameCount.isSome, c.cutCause.isSome, c.truncated]]
  ++ [(c.cutCause.map CutCause.code).getD 0]
  ++ encStamp c.start
  ++ encStamp (c.ending.getD ⟨0, 0⟩)
  ++ beBytes 4 ((c.startFrame.map BitVec.toNat).getD 0)
  ++ beBytes 4 (c.frameCount.getD 0)
  ++ beBytes 4 c.committed ++ beBytes 4 c.reserved
  ++ beBytes 2 c.staleBands ++ beBytes 2 c.pinnedBands ++ beBytes 1 c.marks.length

/-- The mark record of a mark of clip `number`, 17 bytes. -/
def Mark.enc (number : Nat) (m : Mark) : List Byte :=
  beBytes 4 number ++ [m.kind.code] ++ [flagByte [m.peak.isSome]]
  ++ encStamp m.time ++ beBytes 2 (m.peak.getD 0) ++ beBytes 1 m.band.val

/-- The cut record, 21 bytes. -/
def CutRec.enc (c : CutRec) : List Byte :=
  beBytes 4 c.number ++ [c.cause.code] ++ [flagByte [c.vbat.isSome, c.charge.isSome]]
  ++ beBytes 4 c.committed ++ encStamp c.time ++ beBytes 2 (c.vbat.getD 0)
  ++ [(c.charge.map ChargeState.code).getD 0]

/-- The fault snapshot as CHARGE_READ carries it, 15 bytes (R174, R181; layout by R207). -/
def Snapshot.enc (x : Snapshot) : List Byte :=
  [x.previous.code, x.cause.code] ++ beBytes 2 x.vbat ++ beInt 2 x.ibat ++ encOpt 2 (beInt 2) x.temp
  ++ beBytes 2 x.target ++ beBytes 4 x.safety

/-- The answer frame of section 11.1: status, kind, two length bytes, body. -/
def Answer.frame (a : Answer) : List Byte :=
  [a.status.code, a.kind] ++ beBytes 2 a.body.length ++ a.body

end Sys2Proof.Machine
end

