-- ==== Sys2Proof/Machine/Flags.lean ====
section
/-! DEFINITION. Notices: the bit of each kind (section 11.5), the ports it is routed to (section 10.5), a
port's notice set and mask, and the ATTN line that follows them (R199, R200). -/

namespace Sys2Proof.Machine

/-- The bit number of a notice kind (section 11.5). -/
def Notice.bit : Notice → Nat
  | .corrReady => 0 | .frameMissed => 1 | .recycle => 2 | .reserveGranted => 3 | .reserveFailed => 4
  | .shock => 5 | .sealed => 6 | .chargeState => 7 | .chargeFault => 8 | .inputChanged => 9
  | .recovery => 10 | .imuRecovered => 11 | .imuFailed => 12 | .crash => 13 | .supplyLow => 14
  | .supplyOk => 15

/-- The one-bit set that holds a notice kind. -/
def Notice.set (n : Notice) : BitVec 16 := BitVec.twoPow 16 n.bit

/-- The ports each kind is routed to (table of section 10.5). -/
def Notice.routed : Notice → Port → Bool
  | .corrReady, .a | .frameMissed, .a | .recycle, .a | .reserveGranted, .a | .reserveFailed, .a => true
  | .shock, .b | .sealed, .b | .chargeState, .b | .chargeFault, .b | .inputChanged, .b | .recovery, .b
  | .imuRecovered, .b => true
  | .imuFailed, _ | .crash, _ | .supplyLow, _ | .supplyOk, _ => true
  | _, _ => false

/-- The kinds that can be in a port's set: nine for Port A, eleven for Port B (section 10.5). -/
def routedSet : Port → BitVec 16
  | .a => 0xF01F
  | .b => 0xFFE0

/-- R200: ATTN is high while the set holds at least one kind the mask enables. -/
def attnLevel (notices mask : BitVec 16) : Level := if notices &&& mask = 0 then .low else .high

/-- A port with a new notice set; ATTN follows (R200). -/
def PortState.withNotices (p : PortState) (n : BitVec 16) : PortState :=
  { p with notices := n, attn := attnLevel n p.mask }

/-- A port with a new mask; ATTN follows (R200). -/
def PortState.withMask (p : PortState) (m : BitVec 16) : PortState :=
  { p with mask := m, attn := attnLevel p.notices m }

/-- R199: the kind joins the port's set; already in it, the set is unchanged. -/
def PortState.raise (n : Notice) (p : PortState) : PortState := p.withNotices (p.notices ||| n.set)

end Sys2Proof.Machine
end

