-- ==== Sys2Proof/Machine/Ops.lean ====
section
/-! DEFINITION. The shared operations: the port machinery of chapter 10 (taking a request, its checks, its
answer, completion of a request in flight, abandonment), events, notices, time stamps and captures. -/

namespace Sys2Proof.Machine

/-- What a step or a command answers. -/
abbrev Out := Host.Outcome State Fault Refusal

/-! ### Time -/

/-- R4: the time stamp of the current event. -/
def State.stamp (s : State) : Stamp := { epoch := s.store.epoch, tick := s.tick }

/-- Whether a timer falls due at the current tick (R3: "expires when the tick counter reaches its due
tick"). -/
def State.due (s : State) (t : Timer) : Bool := decide (t = some s.tick)

/-! ### Commands -/

/-- R124: while VSYS is absent "no request, capture or timer reaches the part"; otherwise `f` happens. -/
def State.whenPowered (f : State → State) (s : State) : Out :=
  .next (if s.store.vsys then f s else s)

/-- An event the part can only have when `cond` holds; otherwise there is no such event and nothing
changes (log 2). -/
def State.event (cond : State → Bool) (f : State → State) (s : State) : Out :=
  s.whenPowered fun s => if cond s then f s else s

/-! ### Ports -/

/-- The state of a port. -/
def State.port (s : State) : Port → PortState
  | .a => s.portA
  | .b => s.portB

/-- Replace the state of a port. -/
def State.setPort (s : State) : Port → PortState → State
  | .a, x => { s with portA := x }
  | .b, x => { s with portB := x }

/-- The time pairing of a port. -/
def State.pair (s : State) : Port → Pairing
  | .a => s.pairA
  | .b => s.pairB

/-- Replace the time pairing of a port. -/
def State.setPair (s : State) : Port → Pairing → State
  | .a, x => { s with pairA := x }
  | .b, x => { s with pairB := x }

/-- R199: raise a notice on the ports section 10.5 routes it to. -/
def State.raise (n : Notice) (s : State) : State :=
  { s with
    portA := if n.routed .a then s.portA.raise n else s.portA
    portB := if n.routed .b then s.portB.raise n else s.portB }

/-- The state of a slot. -/
def Slot.state : Slot → SlotState
  | .empty => .empty
  | .working _ _ => .working
  | .answered _ => .answered

/-- R206: the slot-state byte of Port A. -/
def SlotState.byte : SlotState → Byte
  | .empty => 0x00
  | .working => 0x01
  | .answered => 0x02

/-- R189: the slot as a request transfer that ends now met it at its kind byte. A slot that is WORKING now was
WORKING then, for only a transfer makes it so; a state it has not left since the latest transfer it was not in. -/
def PortState.met (x : PortState) : Began → SlotState
  | .now => x.slot.state
  | .whileWorking => if x.earlier.working = true then .working else x.slot.state
  | .whileAnswered => if x.earlier.answered = true ∧ x.slot.state ≠ .working then .answered else x.slot.state

/-- The slot changes other than by a transfer of its port (R191, R193); the state it leaves may have been met by
a transfer that has not ended (R189). -/
def PortState.change (x : PortState) (new : Slot) : PortState :=
  { x with
    slot := new
    earlier := { working := x.earlier.working || decide (x.slot.state = .working)
                 answered := x.earlier.answered || decide (x.slot.state = .answered) } }

/-- How many bytes the master clocks after the kind byte of a request transfer. -/
def Frame.wireLen (f : Frame) : Nat := (if f.len.isSome then 1 else 0) + f.body.length

/-- R189, R206: the bytes the part sends during a request transfer that met the slot as `met`: on Port A the
slot-state byte and then 0x00 for every further byte, on Port B nothing. -/
def requestSends (p : Port) (met : SlotState) (f : Frame) : List Byte :=
  match p with
  | .a => met.byte :: List.replicate (Frame.wireLen f) 0
  | .b => []

/-- R189: a request transfer refused BUSY reaches no check, changes no slot and leaves no answer. -/
def State.refuseBusy (s : State) (p : Port) (f : Frame) : State :=
  s.setPort p { s.port p with sent := requestSends p .working f, busy := true, earlier := Earlier.none }

/-- R190: the request is taken; an unfetched answer is discarded and the slot becomes WORKING for it. -/
def State.take (s : State) (p : Port) (code : Byte) (f : Frame) : State :=
  let x := s.port p
  s.setPort p { x with
    slot := .working code (x.takings + 1), takings := x.takings + 1, earlier := Earlier.none
    sent := requestSends p (x.met f.began) f, busy := false }

/-- R190: a request is answered within its arrival; the answer is placed in the slot, which becomes ANSWERED. -/
def State.answer (s : State) (p : Port) (a : Answer) : State :=
  s.setPort p { s.port p with slot := .answered a, earlier := Earlier.none }

/-- R191: the answer of a request in flight is placed in the slot of its port, which becomes ANSWERED. -/
def State.finish (s : State) (p : Port) (a : Answer) : State :=
  s.setPort p ((s.port p).change (.answered a))

/-- The ticket of the request a port's slot has just taken (R191). -/
def State.ticket (s : State) (p : Port) : Ticket := { port := p, taking := (s.port p).takings }

/-- R191: a request in flight completes. Its answer goes to the slot that took it; a completion whose
request has been abandoned places no answer. -/
def State.complete (s : State) (t : Ticket) (st : Status) (body : List Byte) : State :=
  match (s.port t.port).slot with
  | .working code n =>
    if n = t.taking then s.finish t.port { status := st, kind := code, body := body } else s
  | _ => s

/-- R193: the port's slot is emptied without an answer. A TIME_PAIR disarms its channel and cancels its
timeout (R10); an IMU_ACCESS leaves the pass-through queue, and its transfer, if on the bus, runs on
(R36). A RAIL_ON ends with its rail, which the caller turns off. -/
def State.abandon (s : State) (p : Port) : State :=
  let x := s.port p
  let s := s.setPort p (x.change .empty)
  match x.slot with
  | .working _ n =>
    let s := if (s.pair p).armed = some n then s.setPair p Pairing.disarmed else s
    { s with link := { s.link with
        queue := s.link.queue.filter fun a => a.ticket != ({ port := p, taking := n } : Ticket) } }
  | _ => s

/-! ### Requests -/

/-- How a request's own rule leaves it: answered with a status and a body, or in flight (R190). -/
inductive Reply where
  | done (status : Status) (body : List Byte)
  | inFlight
  deriving DecidableEq, Repr

/-- One entry of the policy table. -/
def PolicyRow.allows (r : PolicyRow) : PolicyClass → Bool
  | .sensor => r.sensor
  | .motion => r.motion
  | .frame => r.frame
  | .record => r.record
  | .catalogue => r.catalogue
  | .rails => r.rails
  | .budget => r.budget
  | .charge => r.charge

/-- The row of the policy table for a port. -/
def PolicyTable.row (t : PolicyTable) : Port → PolicyRow
  | .a => t.a
  | .b => t.b

/-- R194, step 2: the body-length byte is present, equals the kind's fixed length, and that many body
bytes were received. -/
def Frame.lengthOk (f : Frame) (k : Kind) : Bool :=
  match f.len with
  | some l => decide (l.toNat = k.bodyLen) && decide (f.body.length = l.toNat)
  | none => false

/-- R194, step 3: whether policy and port allow the kind (R196). -/
def State.allowed (s : State) (p : Port) (k : Kind) : Bool :=
  (!k.portBOnly || decide (p = .b)) &&
  match k.policyClass with
  | some c => (s.policy.row p).allows c
  | none => true

/-- R194, steps 2 and 3: the first check that fails, if one does. -/
def State.precheck (s : State) (p : Port) (k : Kind) (f : Frame) : Option Status :=
  if !Frame.lengthOk f k then some .badLength
  else if !s.allowed p k then some .denied
  else none

/-- What becomes of a request once its own rule has acted: its answer is placed last, or it stays in
flight (R190, R193). -/
def State.settle (p : Port) (k : Kind) : State × Reply → State
  | (s, .done st body) => s.answer p { status := st, kind := k.code, body := body }
  | (s, .inFlight) => s

/-- A request of kind `k` arrives on port `p` (R188 to R190, R194): refused BUSY if its kind byte met a WORKING
slot; else taken, checked, and acted on by its own rule `act`, which is given the port and
the body. -/
def State.request (k : Kind) (act : Port → List Byte → State → State × Reply) (p : Port) (f : Frame)
    (s : State) : State :=
  if (s.port p).met f.began = .working then s.refuseBusy p f
  else
    let s := s.take p k.code f
    match s.precheck p k f with
    | some st => State.settle p k (s, .done st [])
    | none => State.settle p k (act p f.body s)

/-- A request command: nothing reaches the part while VSYS is absent (R124). -/
def State.doRequest (k : Kind) (act : Port → List Byte → State → State × Reply) (p : Port) (f : Frame)
    (s : State) : Out :=
  s.whenPowered (State.request k act p f)

/-! ### Captures -/

/-- The held capture of a channel (R6). -/
def Channels.held (c : Channels) : Channel → Option Tick
  | .fst => c.fst
  | .fen => c.fen
  | .drdy => c.drdy
  | .synca => c.synca
  | .syncb => c.syncb
  | .wheel => c.wheel

/-- Replace the held capture of a channel. -/
def Channels.put (c : Channels) (ch : Channel) (x : Option Tick) : Channels :=
  match ch with
  | .fst => { c with fst := x }
  | .fen => { c with fen := x }
  | .drdy => { c with drdy := x }
  | .synca => { c with synca := x }
  | .syncb => { c with syncb := x }
  | .wheel => { c with wheel := x }

/-- R6: an edge's capture becomes the channel's held capture, replacing one not taken. -/
def State.capture (s : State) (ch : Channel) (t : Tick) : State :=
  { s with channels := s.channels.put ch (some t) }

/-- R6: the consumer takes (or discards) the held capture, and the channel becomes empty. -/
def State.emptied (s : State) (ch : Channel) : State :=
  { s with channels := s.channels.put ch none }

end Sys2Proof.Machine
end

