-- ==== Sys2Proof/Machine/Marks.lean ====
section
/-! DEFINITION. The Mark Pool (chapter 6). The marks of a clip stand in its clip record (log 9). -/

namespace Sys2Proof.Machine

/-- R113: how many marks the pool holds. -/
def Catalogue.poolSize (c : Catalogue) : Nat := (c.clips.map fun x => x.marks.length).sum

/-- R113: the place of a mark in a list, after those of the same time. A clip's marks carry one epoch
(R123), so the order is by tick (log 22). -/
def markIndex (ms : List Mark) (m : Mark) : Nat :=
  (ms.takeWhile fun x => atOrAfter m.time.tick x.time.tick).length

/-- R113: insert a mark at its place. -/
def insertMark (ms : List Mark) (m : Mark) : List Mark := ms.insertIdx (markIndex ms m) m

/-- R113, section 6.1: room for a mark in a clip. -/
def Catalogue.room (c : Catalogue) (x : Clip) : Bool :=
  decide (x.marks.length < 16) && decide (c.poolSize < 256)

/-- The better of two candidates for the lowest-peak SHOCK mark: the earlier unless the later is lower. -/
def lowerPeak (a b : Option (Nat × Nat)) : Option (Nat × Nat) :=
  match a, b with
  | some (i, p), some (j, q) => if q < p then some (j, q) else some (i, p)
  | some x, none => some x
  | none, y => y

/-- R117: the index and peak of the lowest-peak SHOCK mark, the lowest index among equals; `i` is the
index of the head. -/
def lowestShock : Nat → List Mark → Option (Nat × Nat)
  | _, [] => none
  | i, m :: ms => lowerPeak (if m.kind = .shock then some (i, m.peak.getD 0) else none) (lowestShock (i + 1) ms)

/-- R117, R118: what becomes of a clip's list when a mark finds no room: the lowest-peak SHOCK mark gives
way to a CRASH mark, or to a SHOCK mark with a higher peak; otherwise the mark is dropped. -/
def replaceShock (ms : List Mark) (m : Mark) : List Mark :=
  match lowestShock 0 ms with
  | some (i, p) =>
    if m.kind = .crash ∨ p < m.peak.getD 0 then insertMark (ms.eraseIdx i) m else ms
  | none => ms

/-- R114, R115, R117 to R119: a SHOCK or CRASH mark joins a clip, or is weighed when there is no room. -/
def Catalogue.markClip (c : Catalogue) (m : Mark) (x : Clip) : Clip :=
  if c.room x then { x with marks := insertMark x.marks m }
  else { x with marks := replaceShock x.marks m, truncated := true }

/-- Apply `f` to the record numbered `n`. -/
def Catalogue.onClip (c : Catalogue) (n : Nat) (f : Clip → Clip) : Catalogue :=
  { c with clips := c.clips.map fun x => if x.number = n then f x else x }

/-- The OPEN record (R86: at most one). -/
def Catalogue.openClip (c : Catalogue) : Option Clip := c.clips.find? fun x => x.state = .opened

/-- The record numbered `n`. -/
def Catalogue.clip (c : Catalogue) (n : Nat) : Option Clip := c.clips.find? fun x => x.number = n

/-- Whether the write gate is open (R133). -/
def State.gateOpen (s : State) : Bool := decide (s.store.gate = .opened)

/-- R114: the Mark Pool takes a shock event. -/
def State.shockMark (s : State) (start : Tick) (peak : Nat) (band : Fin 4) : State :=
  match s.catalogue.openClip with
  | some x =>
    if s.gateOpen then
      let m : Mark := { kind := .shock, time := { epoch := s.store.epoch, tick := start }
                        peak := some peak, band := band }
      { s with catalogue := s.catalogue.onClip x.number (s.catalogue.markClip m) }
    else s
  | none => s

/-- R115: the Mark Pool takes a crash event for the clip the catalogue named, if it named one. -/
def State.crashMark (s : State) (clip : Option Nat) (start : Tick) (peak : Nat) : State :=
  match clip with
  | some n =>
    let m : Mark := { kind := .crash, time := { epoch := s.store.epoch, tick := start }
                      peak := some peak, band := s.wheel.band }
    { s with catalogue := s.catalogue.onClip n (s.catalogue.markClip m) }
  | none => s

/-- MARK_USER's own rule (R116). -/
def markUser (_ : Port) (_ : List Byte) (s : State) : State × Reply :=
  match s.catalogue.openClip with
  | none => (s, .done .wrongState [])
  | some x =>
    if !s.gateOpen then (s, .done .gateClosed [])
    else if !s.catalogue.room x then (s, .done .full [])
    else
      let m : Mark := { kind := .user, time := s.stamp, peak := none, band := s.wheel.band }
      let c := s.catalogue.onClip x.number fun y => { y with marks := insertMark y.marks m }
      ({ s with catalogue := c },
        .done .ok (beBytes 4 x.number ++ beBytes 1 (markIndex x.marks m) ++ encStamp m.time))

/-- MARK_USER (R116). -/
def execMarkUser (p : Port) (f : Frame) (s : State) : Out := s.doRequest .markUser markUser p f

/-- R100: the clip-number check. -/
def clipNumberOk (n : Nat) : Bool := n != 0 && n != 4294967295

/-- MARK_READ's own rule (R121). -/
def markRead (_ : Port) (b : List Byte) (s : State) : State × Reply :=
  let n := field b 0 4
  let i := field b 4 1
  if !clipNumberOk n || decide (15 < i) then (s, .done .badValue [])
  else
    match s.catalogue.clip n with
    | none => (s, .done .notFound [])
    | some x =>
      match x.marks[i]? with
      | none => (s, .done .notFound [])
      | some m => (s, .done .ok (m.enc n ++ beBytes 1 x.marks.length ++ encBool x.truncated))

/-- MARK_READ (R121). -/
def execMarkRead (p : Port) (f : Frame) (s : State) : Out := s.doRequest .markRead markRead p f

end Sys2Proof.Machine
end

