-- ==== Sys2Proof/Machine/Pulses.lean ====
section
/-! DEFINITION. The pulse generators (section 1.6): start, stop, update, and what a period start and the
end of a width do to a generator. Generators.lean gives the two commands. -/

namespace Sys2Proof.Machine

/-- R16: the output at the start of a period of width `w`. -/
def pulseLevel (w : Nat) : Level := if w = 0 then .low else .high

/-- R17: a start begins a period at tick `now` and discards any staged update. -/
def Generator.begin (now : Tick) (period width : Nat) : Generator :=
  { running := true, period := period, width := width, start := now, staged := none
    output := pulseLevel width }

/-- R17: a stop drives the output low and discards any staged update; while STOPPED it changes nothing. -/
def Generator.stop (g : Generator) : Generator :=
  if g.running then { g with running := false, staged := none, output := .low } else g

/-- R18: an update is staged while RUNNING and ignored while STOPPED. -/
def Generator.update (g : Generator) (period width : Nat) : Generator :=
  if g.running then { g with staged := some { period := period, width := width } } else g

/-- R16: whether the next period starts at tick `now`. -/
def Generator.periodDue (g : Generator) (now : Tick) : Bool :=
  g.running && decide (now = later g.start g.period)

/-- R16, R18: the next period starts at `now`, with the staged values if there are any. -/
def Generator.nextPeriod (g : Generator) (now : Tick) : Generator :=
  let p := g.staged.getD { period := g.period, width := g.width }
  { g with period := p.period, width := p.width, start := now, staged := none
           output := pulseLevel p.width }

/-- R16: whether the width of the current period ends at tick `now`. With w = 0 the output is low
already, and with w ≥ p it does not fall. -/
def Generator.widthDue (g : Generator) (now : Tick) : Bool :=
  g.running && decide (0 < g.width) && decide (g.width < g.period)
    && decide (now = later g.start g.width)

end Sys2Proof.Machine
end

