-- ==== Sys2Proof/Machine/Frames.lean ====
section
/-! DEFINITION. The Frame Tracker and the Correction Queue (chapter 4). -/

namespace Sys2Proof.Machine

/-! ### The angle at a band instant -/

/-- What a band is formed from: the angles C, and the flags that R70 to R72 derive with them. -/
structure Found where
  angle    : Axes Int
  stale    : Bool
  noMotion : Bool
  pinned   : Bool
  deriving DecidableEq, Repr

/-- R72: whether an entry carries one of the three pin flags. -/
def HistEntry.anyPinned (e : HistEntry) : Bool := e.pinned.yaw || e.pinned.pitch || e.pinned.roll

/-- R70: the interpolated value of one axis at tick `t`. -/
def interpolate (t t0 t1 : Tick) (c0 c1 : Int) : Int :=
  c0 + nearest ((c1 - c0) * (dist t t0 : Int)) (dist t1 t0)

/-- R70: C from the entries on both sides of `t`. -/
def bracket (t : Tick) (e0 e1 : HistEntry) : Found :=
  { angle := { yaw := interpolate t e0.tick e1.tick e0.acc.yaw e1.acc.yaw
               pitch := interpolate t e0.tick e1.tick e0.acc.pitch e1.acc.pitch
               roll := interpolate t e0.tick e1.tick e0.acc.roll e1.acc.roll }
    stale := e1.restart, noMotion := false, pinned := e0.anyPinned || e1.anyPinned }

/-- R70, R71: C from one entry. -/
def fromEntry (stale : Bool) (e : HistEntry) : Found :=
  { angle := e.acc, stale := stale, noMotion := false, pinned := e.anyPinned }

/-- R70: what the history gives a band with instant `t`, or none when it does not cover it. -/
def coverage (h : List HistEntry) (t : Tick) : Option Found :=
  match h.find? fun e => e.tick = t with
  | some e => some (fromEntry false e)
  | none =>
    match h.find? fun e => atOrAfter e.tick t, (h.filter fun e => !atOrAfter e.tick t).getLast? with
    | some e1, some e0 => some (bracket t e0 e1)
    | some e1, none => some (fromEntry true e1)
    | none, _ => none

/-- R71: what the deadline case gives. -/
def deadlineCase (h : List HistEntry) : Found :=
  match h.getLast? with
  | some e => fromEntry true e
  | none => { angle := Axes.all 0, stale := false, noMotion := true, pinned := false }

/-! ### Records -/

/-- R73: the output for an angle `c`, before its margin. -/
def shift (c : Int) (scale : Nat) (div : Nat) : Int := -(nearest (c * scale) div)

/-- R72 to R74: the record of band `b`, formed from `x` in the state `s`. -/
def State.record (s : State) (b : Band) (x : Found) : CorrRec :=
  let l := s.frames.lens
  let dx := shift x.angle.yaw l.fx (2 ^ 24)
  let dy := shift x.angle.pitch l.fy (2 ^ 24)
  let droll := shift x.angle.roll 1 (2 ^ 16)
  { frame := b.frame, band := b.index, time := b.time, formed := s.tick
    dx := saturate l.mx dx, dy := saturate l.my dy, droll := saturate l.mroll droll
    stale := x.stale, noMotion := x.noMotion, pinned := x.pinned
    clamped := decide (l.mx < dx.natAbs) || decide (l.my < dy.natAbs) || decide (l.mroll < droll.natAbs)
    shock := s.motion.episode.isSome, droppedBefore := false }

/-- R75: the record after a discard is the head, and carries DROPPED_BEFORE. -/
def markDropped : List CorrRec → List CorrRec
  | [] => []
  | r :: rs => { r with droppedBefore := true } :: rs

/-- R75: a record joins the queue; of a full queue the oldest record is first discarded. -/
def joinQueue (q : List CorrRec) (r : CorrRec) : List CorrRec :=
  (if 64 ≤ q.length then markDropped q.tail else q) ++ [r]

/-- A counter that saturates at 65535 goes up when `up` holds. -/
def count16 (up : Bool) (n : Nat) : Nat := if up then min 65535 (n + 1) else n

/-- R78: a record counts into a clip record. -/
def Clip.countBand (r : CorrRec) (x : Clip) : Clip :=
  { x with staleBands := count16 (r.stale || r.noMotion) x.staleBands
           pinnedBands := count16 (r.pinned || r.clamped) x.pinnedBands }

/-- R78: a formed record counts into the OPEN record while the gate is open. -/
def State.countBand (s : State) (r : CorrRec) : State :=
  match s.catalogue.openClip with
  | some x =>
    if s.gateOpen then { s with catalogue := s.catalogue.onClip x.number (Clip.countBand r) } else s
  | none => s

/-- R75, R76, R78: a formed record is delivered: it joins the queue, CORR_READY is raised at or above the
watermark, and it counts into the open clip. -/
def State.deliver (s : State) (r : CorrRec) : State :=
  let q := joinQueue s.frames.queue r
  let s := { s with frames := { s.frames with queue := q } }
  let s := if s.frames.params.watermark ≤ q.length then s.raise .corrReady else s
  s.countBand r

/-! ### Examining the pending bands -/

/-- R69: what the oldest pending band is formed from now, or none when it is neither covered nor past its
deadline. -/
def State.ready (s : State) (b : Band) : Option Found :=
  match coverage s.motion.history b.time with
  | some x => some x
  | none => if b.deadline.isNone then some (deadlineCase s.motion.history) else none

/-- R69: the oldest pending band `b` leaves the pending bands and its record is delivered. -/
def State.formBand (s : State) (b : Band) (x : Found) : State :=
  ({ s with frames := { s.frames with bands := s.frames.bands.tail } }).deliver (s.record b x)

/-- R69: an examination of the pending bands, forming at most `n` of them. -/
def State.examineN : Nat → State → State
  | 0, s => s
  | n + 1, s =>
    match s.frames.bands with
    | [] => s
    | b :: _ =>
      match s.ready b with
      | some x => State.examineN n (s.formBand b x)
      | none => s

/-- R69: an examination of the pending bands. -/
def State.examine (s : State) : State := s.examineN s.frames.bands.length

/-- R68: force the oldest pending band, as if its deadline had passed. -/
def State.forceOldest (s : State) : State :=
  match s.frames.bands with
  | [] => s
  | b :: _ =>
    s.formBand b ((coverage s.motion.history b.time).getD (deadlineCase s.motion.history))

/-- R68: force the `k` oldest pending bands, one at a time. -/
def State.force : Nat → State → State
  | 0, s => s
  | k + 1, s => State.force k s.forceOldest

/-- R67: the pending band `i` of `n` of a frame with first strobe `t`. -/
def mkBand (frame : FrameNo) (t : Tick) (rEst n pImu i : Nat) : Band :=
  let time := later t (rEst * (2 * i + 1) / (2 * n))
  { frame := frame, index := i, time := time, deadline := some (later time (4 * pImu)) }

/-- R67, R68: place the bands of frame n, whose S_n is `t`, forcing older bands where there is no room. -/
def State.placeBands (s : State) (t : Tick) : State :=
  let n := s.frames.params.bands
  let s := s.force (s.frames.bands.length + n - 64)
  let new := (List.range n).map (mkBand s.frames.n t s.frames.rEst n s.link.settings.pImu)
  ({ s with frames := { s.frames with bands := s.frames.bands ++ new } }).examine

/-! ### Triggers, windows and strobes -/

/-- R64: the window of the current frame closes, if it is open. -/
def State.closeWindow (s : State) : State :=
  match s.frames.cur with
  | some c =>
    if c.window.isSome then
      let s := { s with frames := { s.frames with cur := some { c with window := none } } }
      if c.sn.isNone then s.raise .frameMissed else s
    else s
  | none => s

/-- R63: a frame trigger event. -/
def State.frameTrigger (s : State) : State :=
  let s := s.closeWindow
  let f := s.frames
  { s with frames := { f with
      n := if f.opened then f.n + 1 else f.n
      opened := true
      cur := some { trigger := s.tick, window := some (later s.tick f.params.window), sn := none
                    fenTaken := false } } }

/-- WINDOW_EXPIRY (R64). -/
def execWindowExpiry (s : State) : Out :=
  s.event (fun s => s.due (s.frames.cur.bind CurFrame.window)) State.closeWindow

/-- R65: whether an FST capture gives S_n. -/
def Frames.wantsStrobe (f : Frames) : Bool :=
  f.state != .idle &&
  match f.cur with
  | some c => c.window.isSome && c.sn.isNone
  | none => false

/-- R65: an FST capture at the current tick. -/
def State.strobe (s : State) : State :=
  match s.frames.cur with
  | some c =>
    if s.frames.wantsStrobe then
      ({ s with frames := { s.frames with state := .tracking, cur := some { c with sn := some s.tick } } }).placeBands
        s.tick
    else s
  | none => s

/-- FST_CAPTURE (R65). -/
def execFstCapture (s : State) : Out :=
  s.whenPowered fun s => ((s.capture .fst s.tick).emptied .fst).strobe

/-- R66: a FEN capture at the current tick. -/
def State.endStrobe (s : State) : State :=
  match s.frames.cur with
  | some c =>
    match c.sn with
    | some t =>
      if s.frames.state ≠ .idle ∧ c.fenTaken = false then
        let r := dist s.tick t
        { s with frames := { s.frames with
            cur := some { c with fenTaken := true }
            rEst := if 1 ≤ r ∧ r ≤ s.frames.params.period then r else s.frames.rEst } }
      else s
    | none => s
  | none => s

/-- FEN_CAPTURE (R66). -/
def execFenCapture (s : State) : Out :=
  s.whenPowered fun s => ((s.capture .fen s.tick).emptied .fen).endStrobe

/-- Whether a pending band is band `i` of frame `n` with its deadline due at `now`. -/
def Band.expires (n : FrameNo) (i : Nat) (now : Tick) (b : Band) : Bool :=
  decide (b.frame = n) && decide (b.index = i) && decide (b.deadline = some now)

/-- R69: the deadline of a pending band has passed. -/
def Band.pass (n : FrameNo) (i : Nat) (now : Tick) (b : Band) : Band :=
  if b.expires n i now then { b with deadline := none } else b

/-- BAND_DEADLINE_EXPIRY (R69, R71): the deadline of the band is passed and the bands are examined. -/
def execBandDeadlineExpiry (n : FrameNo) (i : Nat) (s : State) : Out :=
  s.event (fun s => s.frames.bands.any (Band.expires n i s.tick)) fun s =>
    ({ s with frames := { s.frames with bands := s.frames.bands.map (Band.pass n i s.tick) } }).examine

/-! ### Requests -/

/-- R45: the limits recomputed from the lens settings, and the accumulators repinned. -/
def Motion.repin (m : Motion) (l : Lens) : Motion :=
  let lim := l.limits
  { m with
    limit := lim
    acc := { yaw := saturate lim.yaw m.acc.yaw, pitch := saturate lim.pitch m.acc.pitch
             roll := saturate lim.roll m.acc.roll } }

/-- LENS_SET's own rule (R60, R45). -/
def lensSet (_ : Port) (b : List Byte) (s : State) : State × Reply :=
  let l : Lens :=
    { fx := clamp 1 4095 (field b 0 2), fy := clamp 1 4095 (field b 2 2)
      mx := clamp 0 8191 (field b 4 2), my := clamp 0 8191 (field b 6 2)
      mroll := clamp 0 2560 (field b 8 2) }
  ({ s with frames := { s.frames with lens := l }, motion := s.motion.repin l }, .done .ok l.enc)

/-- LENS_SET (R60). -/
def execLensSet (p : Port) (f : Frame) (s : State) : Out := s.doRequest .lensSet lensSet p f

/-- R61: the parameters FRAME_START carries, clamped. -/
def readFrameParams (b : List Byte) : FrameParams :=
  let period := field b 0 4
  { period := period, width := clamp 1 255 (field b 4 4), bands := field b 8 1
    rCfg := clamp 1 period (field b 9 4), window := clamp 1 period (field b 13 4)
    watermark := clamp 1 64 (field b 17 1) }

/-- R61: whether the frame period and the band count are in their ranges. -/
def frameParamsOk (b : List Byte) : Bool :=
  decide (4096 ≤ field b 0 4) && decide (field b 0 4 ≤ 1048576)
    && [1, 2, 4, 8, 16].contains (field b 8 1)

/-- R61: the four effects of an accepted FRAME_START, with the frame trigger of the start (R17). -/
def State.frameStart (s : State) (p : FrameParams) : State :=
  ({ s with
      frames := { s.frames with params := p, rEst := p.rCfg, n := 0, opened := false, state := .armed }
      ftrig := Generator.begin s.tick p.period p.width }).frameTrigger

/-- FRAME_START's own rule (R61). -/
def frameStart (_ : Port) (b : List Byte) (s : State) : State × Reply :=
  if !frameParamsOk b then (s, .done .badValue [])
  else if s.frames.state ≠ .idle then (s, .done .wrongState [])
  else (s.frameStart (readFrameParams b), .done .ok (readFrameParams b).enc)

/-- FRAME_START (R61). -/
def execFrameStart (p : Port) (f : Frame) (s : State) : Out := s.doRequest .frameStart frameStart p f

/-- R62: what FRAME_STOP does. In IDLE it changes nothing. -/
def State.frameStop (s : State) : State :=
  if s.frames.state = .idle then s
  else { s with ftrig := s.ftrig.stop, frames := { s.frames with state := .idle, cur := none, bands := [] } }

/-- R80: what the media rail going off does to the Frame Tracker and the queue. -/
def State.frameRailOff (s : State) : State :=
  let s := s.frameStop
  { s with frames := { s.frames with queue := [] } }

/-- FRAME_STOP's own rule (R62). -/
def frameStop (_ : Port) (_ : List Byte) (s : State) : State × Reply := (s.frameStop, .done .ok [])

/-- FRAME_STOP (R62). -/
def execFrameStop (p : Port) (f : Frame) (s : State) : Out := s.doRequest .frameStop frameStop p f

/-- CORR_READ's own rule (R77). -/
def corrRead (_ : Port) (_ : List Byte) (s : State) : State × Reply :=
  let out := s.frames.queue.take 8
  ({ s with frames := { s.frames with queue := s.frames.queue.drop 8 } },
    .done .ok (beBytes 1 out.length ++ out.flatMap CorrRec.enc))

/-- CORR_READ (R77). -/
def execCorrRead (p : Port) (f : Frame) (s : State) : Out := s.doRequest .corrRead corrRead p f

/-- FRAME_STATUS's own rule (R79). -/
def frameStatus (_ : Port) (_ : List Byte) (s : State) : State × Reply :=
  let f := s.frames
  (s, .done .ok ([f.state.code] ++ beBytes 4 f.n.toNat ++ encBool f.opened ++ beBytes 4 f.rEst
    ++ f.params.enc ++ beBytes 1 f.bands.length ++ beBytes 1 f.queue.length ++ f.lens.enc))

/-- FRAME_STATUS (R79). -/
def execFrameStatus (p : Port) (f : Frame) (s : State) : Out := s.doRequest .frameStatus frameStatus p f

end Sys2Proof.Machine
end

