-- ==== Sys2Proof/Machine/Generators.lean ====
section
/-! DEFINITION. The two commands of the pulse generators (section 1.6). -/

namespace Sys2Proof.Machine

/-- A generator of the part. -/
def State.gen (s : State) : GenId → Generator
  | .ftrig => s.ftrig
  | .iset => s.iset

/-- Replace a generator of the part. -/
def State.setGen (s : State) : GenId → Generator → State
  | .ftrig, x => { s with ftrig := x }
  | .iset, x => { s with iset := x }

/-- R16: a period start of FTRIG is a frame trigger event; one of ISET goes to no block. -/
def State.periodStarted (s : State) : GenId → State
  | .ftrig => s.frameTrigger
  | .iset => s

/-- GENERATOR_PERIOD_START (R16, R18). -/
def execGeneratorPeriodStart (g : GenId) (s : State) : Out :=
  s.event (fun s => (s.gen g).periodDue s.tick) fun s =>
    (s.setGen g ((s.gen g).nextPeriod s.tick)).periodStarted g

/-- GENERATOR_WIDTH_END (R16). -/
def execGeneratorWidthEnd (g : GenId) (s : State) : Out :=
  s.event (fun s => (s.gen g).widthDue s.tick) fun s => s.setGen g { s.gen g with output := .low }

end Sys2Proof.Machine
end

