-- ==== Sys2Proof/Machine/Ports.lean ====
section
/-! DEFINITION. The port commands of chapter 10 that no other block owns: FETCH, a BUSY refusal, an unknown
kind, notices, policy, IDENTIFY. -/

namespace Sys2Proof.Machine

/-! ### Transfers -/

/-- R192: what a FETCH hands over. -/
def Slot.handOver : Slot → Answer
  | .empty => { status := .none, kind := 0, body := [] }
  | .working k _ => { status := .pending, kind := k, body := [] }
  | .answered a => a

/-- R192: the slot after a FETCH. -/
def Slot.afterFetch : Slot → Slot
  | .answered _ => .empty
  | x => x

/-- R192, R206: the bytes the part sends in a fetch transfer in which `n` bytes of the answer are clocked
out: on Port A the slot-state byte first; beyond the end of the frame, 0x00. -/
def fetchSends (p : Port) (slot : Slot) (n : Nat) : List Byte :=
  let frame := (slot.handOver.frame ++ List.replicate n 0).take n
  match p with
  | .a => slot.state.byte :: frame
  | .b => frame

/-- FETCH (R192). -/
def execFetch (p : Port) (n : Nat) (s : State) : Out :=
  s.whenPowered fun s =>
    let x := s.port p
    s.setPort p { x with
      slot := x.slot.afterFetch, earlier := Earlier.none, sent := fetchSends p x.slot n, busy := false }

/-- R189: whether a transfer with this kind byte is a request transfer. -/
def isRequestByte (p : Port) (kind : Byte) : Bool := !(p = .a && kind = 0)

/-- BUSY_REFUSAL (R189): a request transfer whose kind byte met a WORKING slot, whatever the slot is at its
end. -/
def execBusyRefusal (p : Port) (kind : Byte) (f : Frame) (s : State) : Out :=
  s.event (fun s => isRequestByte p kind && (s.port p).met f.began = .working) fun s => s.refuseBusy p f

/-- R194, step 1: a request with an unknown kind byte: refused BUSY if it met a WORKING slot, else taken
and answered UNKNOWN_KIND. -/
def State.unknownRequest (s : State) (p : Port) (kind : Byte) (f : Frame) : State :=
  if (s.port p).met f.began = .working then s.refuseBusy p f
  else (s.take p kind f).answer p { status := .unknownKind, kind := kind, body := [] }

/-- UNKNOWN_KIND (R194, step 1). A kind byte that names a kind is no such command (log 23). -/
def execUnknownKind (p : Port) (kind : Byte) (f : Frame) (s : State) : Out :=
  s.event (fun _ => isRequestByte p kind && !Kind.known kind) fun s => s.unknownRequest p kind f

/-! ### Notices -/

/-- NOTICE_READ's own rule (R201). -/
def noticeRead (p : Port) (_ : List Byte) (s : State) : State × Reply :=
  let x := s.port p
  (s.setPort p (x.withNotices 0), .done .ok (beBytes 2 x.notices.toNat))

/-- NOTICE_READ (R201). -/
def execNoticeRead (p : Port) (f : Frame) (s : State) : Out := s.doRequest .noticeRead noticeRead p f

/-- R202: the mask sixteen entries spell, the first for bit 0. -/
def readMask (b : List Byte) : BitVec 16 :=
  BitVec.ofNat 16 ((b.take 16).foldr (fun x acc => 2 * acc + (if x = 0 then 0 else 1)) 0)

/-- Whether every entry of a body is one of the two codes (R197, R202). -/
def codesOk (b : List Byte) : Bool := b.all fun x => decide (x.toNat ≤ 1)

/-- NOTICE_MASK's own rule (R202). -/
def noticeMask (p : Port) (b : List Byte) (s : State) : State × Reply :=
  if codesOk b then
    let x := (s.port p).withMask (readMask b)
    (s.setPort p x, .done .ok (beBytes 2 x.mask.toNat ++ beBytes 2 x.notices.toNat))
  else (s, .done .badValue [])

/-- NOTICE_MASK (R202). -/
def execNoticeMask (p : Port) (f : Frame) (s : State) : Out := s.doRequest .noticeMask noticeMask p f

/-! ### Policy -/

/-- R197: a row of eight entries, SENSOR to CHARGE, at offset `off`. -/
def readRow (b : List Byte) (off : Nat) : PolicyRow :=
  { sensor := flagAt b off, motion := flagAt b (off + 1), frame := flagAt b (off + 2)
    record := flagAt b (off + 3), catalogue := flagAt b (off + 4), rails := flagAt b (off + 5)
    budget := flagAt b (off + 6), charge := flagAt b (off + 7) }

/-- POLICY_SET's own rule (R197). -/
def policySet (_ : Port) (b : List Byte) (s : State) : State × Reply :=
  if !codesOk b then (s, .done .badValue [])
  else if s.locked then (s, .done .denied [])
  else
    let t : PolicyTable := { a := readRow b 0, b := readRow b 8 }
    ({ s with policy := t }, .done .ok t.enc)

/-- POLICY_SET (R197). -/
def execPolicySet (p : Port) (f : Frame) (s : State) : Out := s.doRequest .policySet policySet p f

/-- POLICY_LOCK's own rule (R198). -/
def policyLock (_ : Port) (_ : List Byte) (s : State) : State × Reply :=
  ({ s with locked := true }, .done .ok [])

/-- POLICY_LOCK (R198). -/
def execPolicyLock (p : Port) (f : Frame) (s : State) : Out := s.doRequest .policyLock policyLock p f

/-! ### IDENTIFY -/

/-- IDENTIFY's own rule (R205). R207 lists no width for the part code and the revision: 2 bytes and 1 byte are the
model's choice (log 13). -/
def identify (p : Port) (_ : List Byte) (s : State) : State × Reply :=
  (s, .done .ok (beBytes 2 Config.partCode ++ beBytes 1 Config.revision ++ encBool s.store.latch
    ++ [Port.code p] ++ s.policy.enc ++ encBool s.locked))

/-- IDENTIFY (R205). -/
def execIdentify (p : Port) (f : Frame) (s : State) : Out := s.doRequest .identify identify p f

end Sys2Proof.Machine
end

