-- ==== Sys2Proof/Machine/Gauge.lean ====
section
/-! DEFINITION. The Gauge (section 9.6). -/

namespace Sys2Proof.Machine

/-- One mAh in mA·ticks (section 9.6). -/
def mAh : Nat := 3774873600

/-- R182: the full charge. -/
def Gauge.full (g : Gauge) : Nat := g.capacity * mAh

/-- R182: a round adds IBAT × 1024, clamped to 0…full charge. -/
def Gauge.add (ibat : Int) (g : Gauge) : Gauge :=
  { g with acc := (clampInt 0 g.full (g.acc + ibat * 1024)).toNat }

/-- R183: the charge state has entered DONE. -/
def Gauge.setFull (g : Gauge) : Gauge := { g with acc := g.full, calibrated := true }

/-- GAUGE_SET's own rule (R184). -/
def gaugeSet (_ : Port) (b : List Byte) (s : State) : State × Reply :=
  let cap := clamp 100 10000 (field b 0 2)
  let charge := clamp 0 cap (field b 2 2)
  ({ s with gauge := { acc := charge * mAh, capacity := cap, calibrated := true } },
    .done .ok (beBytes 2 cap ++ beBytes 2 charge))

/-- GAUGE_SET (R184). -/
def execGaugeSet (p : Port) (f : Frame) (s : State) : Out := s.doRequest .gaugeSet gaugeSet p f

/-- GAUGE_READ's own rule (R185). -/
def gaugeRead (_ : Port) (_ : List Byte) (s : State) : State × Reply :=
  let g := s.gauge
  (s, .done .ok (beBytes 2 (g.acc / mAh) ++ beBytes 1 (g.acc * 100 / g.full) ++ encBool g.calibrated
    ++ beBytes 2 g.capacity ++ beBytes 6 g.acc))

/-- GAUGE_READ (R185). -/
def execGaugeRead (p : Port) (f : Frame) (s : State) : Out := s.doRequest .gaugeRead gaugeRead p f

end Sys2Proof.Machine
end

