-- ==== Sys2Proof/Machine/Charge.lean ====
section
/-! DEFINITION. The Charge Controller (chapter 9). -/

namespace Sys2Proof.Machine

/-! ### Temperature and zones -/

/-- R163: the seventeen breakpoints, in 0.1 °C. -/
def breakpoints : Vector Int 17 :=
  #v[1500, 1080, 880, 750, 650, 570, 500, 430, 370, 310, 250, 190, 120, 50, -30, -140, -400]

/-- R163: the temperature of a TBAT code. -/
def temperature (c : Nat) : Int :=
  let k := c / 256
  let t := breakpoints.getD k 0
  t + nearest ((breakpoints.getD (k + 1) 0 - t) * ((c : Int) - 256 * k)) 256

/-- R163: the condition of a TBAT code. -/
def thermOf (c : Nat) : Therm := if c < 64 then .short else if 4032 < c then .opened else .valid

/-- R164: the zone of a temperature, taken directly. -/
def directZone (t : Int) : Zone :=
  if t < 0 then .cold else if t < 100 then .cool else if t ≤ 450 then .normal
  else if t ≤ 600 then .warm else .hot

/-- R164: one step warmer, where the temperature is at or above the rise level above the zone. -/
def warmer (t : Int) (z : Zone) : Zone :=
  match z with
  | .cold => if 20 ≤ t then .cool else z
  | .cool => if 120 ≤ t then .normal else z
  | .normal => if 470 ≤ t then .warm else z
  | .warm => if 620 ≤ t then .hot else z
  | .hot | .unknown => z

/-- R164: one step cooler, where the temperature is at or below the fall level below the zone. -/
def cooler (t : Int) (z : Zone) : Zone :=
  match z with
  | .hot => if t ≤ 580 then .warm else z
  | .warm => if t ≤ 430 then .normal else z
  | .normal => if t ≤ 80 then .cool else z
  | .cool => if t ≤ -20 then .cold else z
  | .cold | .unknown => z

/-- `f` four times: a zone is at most four steps from any other. -/
def fourTimes (f : Zone → Zone) (z : Zone) : Zone := f (f (f (f z)))

/-- R164: the zone after a round with a VALID code of temperature `t`. -/
def nextZone (t : Int) (z : Zone) : Zone :=
  if z = .unknown then directZone t else fourTimes (cooler t) (fourTimes (warmer t) z)

/-- R163, R164: a round takes the TBAT code. -/
def Charge.thermal (c : Charge) (code : Nat) : Charge :=
  match thermOf code with
  | .valid =>
    { c with therm := some .valid, temp := some (temperature code), zone := nextZone (temperature code) c.zone }
  | t => { c with therm := some t, temp := none, zone := .unknown }

/-- R165: the zones in which charging is paused. -/
def Zone.pauses (z : Zone) : Bool := z = .cold || z = .hot

/-- R165: the zone cap; 0 where the table gives none (log 21). -/
def zoneCap (iCc : Nat) : Zone → Nat
  | .cool | .warm => iCc / 2
  | .normal => iCc
  | .cold | .hot | .unknown => 0

/-- R165: V_cv(zone). -/
def Charge.vZone (c : Charge) : Nat :=
  if c.zone = .warm then c.settings.vCv - 100 else c.settings.vCv

/-! ### Charge states -/

/-- The three states with a target above 0. -/
def ChargeState.charging : ChargeState → Bool
  | .precharge | .cc | .cv => true
  | _ => false

/-- R166: whether a change from `old` into `new` begins a new charge cycle. -/
def newCycle (old new : ChargeState) : Bool :=
  match old, new with
  | .qualify, .precharge | .qualify, .cc | .qualify, .paused | .done, .cc | .done, .paused => true
  | _, _ => false

/-- R166, R168, R170: what a change of charge state does to the Charge Controller. -/
def Charge.enter (now : Tick) (new : ChargeState) (c : Charge) : Charge :=
  let quiet := !new.charging
  { c with
    state := new
    qual := if new = .qualify then some (later now (2 ^ 19)) else if c.state = .qualify then none else c.qual
    target := if quiet then 0 else c.target
    ceiling := if quiet then 0 else c.ceiling
    trim := if quiet then 0 else c.trim
    cv := if quiet || new = .cv then 0 else c.cv
    term := if new = .cv then 0 else c.term
    safety := if newCycle c.state new then 0 else c.safety
    resume := if new = .off then none else c.resume
    isetWidth := if quiet then 0 else c.isetWidth }

/-- R166: the charge state becomes `new`. A change raises CHARGE_STATE, and into FAULT CHARGE_FAULT; into a
state with a target of 0 it stops the ISET generator. -/
def State.toCharge (s : State) (new : ChargeState) : State :=
  if s.charge.state = new then s
  else
    let s := { s with charge := s.charge.enter s.tick new
                      iset := if new.charging then s.iset else s.iset.stop }
    let s := s.raise .chargeState
    if new = .fault then s.raise .chargeFault else s

/-- R170: enter PAUSED with a resume state. -/
def State.pauseCharge (s : State) (resume : ChargeState) : State :=
  ({ s with charge := { s.charge with resume := some resume } }).toCharge .paused

/-- R170: return from PAUSED to the resume state. -/
def State.resumeCharge (s : State) : State :=
  match s.charge.resume with
  | some r => ({ s with charge := { s.charge with resume := none } }).toCharge r
  | none => s

/-- R174: the fault snapshot, taken before the state changes. -/
def Charge.snap (c : Charge) (m : MeasTable) (cause : FaultCause) : Snapshot :=
  { previous := c.state, cause := cause, vbat := m.vbat, ibat := m.ibat
    temp := match cause with
      | .thermistorShort | .thermistorOpen => none
      | _ => c.temp
    target := c.target, safety := c.safety }

/-- R174: enter FAULT in the round that left the table `m`. -/
def State.faultCharge (s : State) (m : MeasTable) (cause : FaultCause) : State :=
  ({ s with charge := { s.charge with snapshot := some (s.charge.snap m cause) } }).toCharge .fault

/-- R167: the Charge Controller takes a change of the input state. -/
def State.chargeInput (s : State) : State :=
  match s.supply.input with
  | .absent => s.toCharge .off
  | .present => if s.charge.state = .off ∧ s.charge.enable = true then s.toCharge .qualify else s

/-! ### The round -/

/-- R169, item 1: what a SHORT or OPEN code does. -/
def State.thermFault (s : State) (m : MeasTable) (cause : FaultCause) : State :=
  match s.charge.state with
  | .precharge | .cc | .cv | .done | .paused => s.faultCharge m cause
  | .qualify => { s with charge := { s.charge with qual := some (later s.tick (2 ^ 19)) } }
  | .off | .fault => s

/-- R172: the termination count after a round in CV. -/
def Charge.termCount (c : Charge) (ibat : Int) : Nat :=
  if (c.settings.iTerm : Int) ≤ ibat then 0
  else if c.settings.iTerm ≤ c.ceiling then c.term + 1
  else c.term

/-- R172: in CV every round first updates the termination count, whatever it then does with the state (log 30). -/
def Charge.counted (c : Charge) (ibat : Int) : Charge :=
  if c.state = .cv then { c with term := c.termCount ibat } else c

/-- R169, item 7: the transitions of R171 and R172, the termination count of CV updated. -/
def State.progress (s : State) (m : MeasTable) : State :=
  match s.charge.state with
  | .precharge => if 3000 ≤ m.vbat then s.toCharge .cc else s
  | .cc => if s.charge.vZone ≤ m.vbat + 20 then s.toCharge .cv else s
  | .cv => if 64 ≤ s.charge.term then ({ s with gauge := s.gauge.setFull }).toCharge .done else s
  | .done =>
    if m.vbat + 100 < s.charge.vZone then
      if s.charge.zone.pauses then s.pauseCharge .cc else s.toCharge .cc
    else s
  | _ => s

/-- R173: the safety limit in rounds. -/
def ChargeSettings.safetyLimit (x : ChargeSettings) : Nat := x.safety * 3686400

/-- R169: the round's one change of charge state, the first condition that applies. -/
def State.changeCharge (s : State) (m : MeasTable) : State :=
  let c := s.charge
  match c.therm with
  | some .short => s.thermFault m .thermistorShort
  | some .opened => s.thermFault m .thermistorOpen
  | _ =>
    if c.state.charging && decide (c.settings.vCv + 100 < m.vbat) then s.faultCharge m .overvoltage
    else if c.state = .precharge ∧ 1843200 ≤ c.safety then s.faultCharge m .prechargeTime
    else if c.state.charging && decide (c.settings.safetyLimit ≤ c.safety) then s.faultCharge m .safetyTime
    else if c.state.charging && c.zone.pauses then s.pauseCharge c.state
    else if c.state = .paused then if c.zone.pauses || c.zone = .unknown then s else s.resumeCharge
    else s.progress m

/-- R169, R172: the termination count, then the round's one change of charge state. -/
def State.transition (s : State) (m : MeasTable) : State :=
  ({ s with charge := s.charge.counted m.ibat } : State).changeCharge m

/-- R162: the reserve, the class table's entry of the current class. -/
def Charge.reserve (c : Charge) : Nat := c.table[c.cls]

/-- R176: the available current and the budget. -/
def Charge.withBudget (c : Charge) (m : MeasTable) : Charge :=
  let avail := c.settings.iLim - c.reserve - c.settings.rBase
  { c with avail := avail, budget := avail * m.vin * 7 / (8 * max m.vbat 2500) }

/-- R177: the trim after a round. -/
def Charge.nextTrim (c : Charge) (m : MeasTable) : Int :=
  if !c.state.charging then c.trim
  else if c.settings.iLim < m.iin then max (-3000) (c.trim - 64)
  else if m.iin + 128 < c.settings.iLim ∧ c.trim < 0 then min 0 (c.trim + 16)
  else c.trim

/-- R178: the CV term after a round. -/
def Charge.nextCv (c : Charge) (m : MeasTable) : Int :=
  if c.state ≠ .cv then c.cv
  else if c.vZone < m.vbat then max (-3000) (c.cv - 16)
  else if m.vbat + 10 < c.vZone ∧ c.cv < 0 then min 0 (c.cv + 16)
  else c.cv

/-- R179: the ceiling. -/
def Charge.newCeiling (c : Charge) : Nat :=
  if c.state.charging then ((min (zoneCap c.settings.iCc c.zone) c.budget : Nat) + c.trim).toNat else 0

/-- R179: the target, once the ceiling has been formed. -/
def Charge.newTarget (c : Charge) : Nat :=
  match c.state with
  | .precharge =>
    ((min c.settings.iPre (min (zoneCap c.settings.iCc c.zone) c.budget) : Nat) + c.trim).toNat
  | .cc => c.ceiling
  | .cv => (c.ceiling + c.cv).toNat
  | _ => 0

/-- R176 to R179: budget, trim, CV term, ceiling and target of a round. -/
def Charge.withTarget (c : Charge) (m : MeasTable) : Charge :=
  let c := c.withBudget m
  let c := { c with trim := c.nextTrim m, cv := c.nextCv m }
  let c := { c with ceiling := c.newCeiling }
  { c with target := c.newTarget }

/-- R180: drive the ISET generator from the target. -/
def State.driveIset (s : State) : State :=
  if 0 < s.charge.target then
    let w := s.charge.target / 12
    { s with
      iset := if s.iset.running then s.iset.update 256 w else Generator.begin s.tick 256 w
      charge := { s.charge with isetWidth := w } }
  else { s with iset := s.iset.stop, charge := { s.charge with isetWidth := 0 } }

/-- R173: the safety count at the end of a round. -/
def Charge.countSafety (c : Charge) : Charge :=
  if c.state.charging && decide (0 < c.target) then { c with safety := min 58982400 (c.safety + 1) } else c

/-- The Charge Controller's work for a round that left the table `m`. -/
def State.chargeRound (s : State) (m : MeasTable) : State :=
  let s := { s with charge := s.charge.thermal m.tbat }
  let s := s.transition m
  let s := { s with charge := s.charge.withTarget m }
  let s := s.driveIset
  { s with charge := s.charge.countSafety }

/-- R168: the state QUALIFY leads to at the expiry of its timer. An absent VBAT counts as below 3000 mV
(log 17). -/
def State.qualified (s : State) : State :=
  let next := match s.supply.table with
    | some m => if m.vbat < 3000 then ChargeState.precharge else .cc
    | none => .precharge
  if s.charge.zone.pauses then s.pauseCharge next else s.toCharge next

/-- QUALIFICATION_EXPIRY (R168). -/
def execQualificationExpiry (s : State) : Out := s.event (fun s => s.due s.charge.qual) State.qualified

/-! ### Requests -/

/-- R159: the settings CHARGE_SET carries, clamped, V_cv rounded down to a multiple of 10 mV. -/
def readCharge (b : List Byte) : ChargeSettings :=
  { iLim := clamp 100 3000 (field b 0 2), iCc := clamp 64 3000 (field b 2 2)
    iPre := clamp 32 512 (field b 4 2), iTerm := clamp 32 512 (field b 6 2)
    vCv := clamp 4100 4400 (field b 8 2) / 10 * 10, safety := clamp 1 16 (field b 10 1)
    rBase := clamp 0 500 (field b 11 2) }

/-- R159: the highest target the settings and the zone allow between rounds. -/
def Charge.targetCap (c : Charge) : Nat :=
  let cap := zoneCap c.settings.iCc c.zone
  if c.state = .precharge then min c.settings.iPre cap else cap

/-- R159: new settings lower the target and the ceiling where they exceed the new caps; a lowered target
is given to ISET again. -/
def State.chargeSettings (s : State) (x : ChargeSettings) : State :=
  let c := { s.charge with settings := x }
  let c := { c with ceiling := min c.ceiling (zoneCap x.iCc c.zone) }
  if c.targetCap < c.target then ({ s with charge := { c with target := c.targetCap } }).driveIset
  else { s with charge := c }

/-- CHARGE_SET's own rule (R159). -/
def chargeSet (_ : Port) (b : List Byte) (s : State) : State × Reply :=
  (s.chargeSettings (readCharge b), .done .ok (readCharge b).enc)

/-- CHARGE_SET (R159). -/
def execChargeSet (p : Port) (f : Frame) (s : State) : Out := s.doRequest .chargeSet chargeSet p f

/-- R160: the enable takes the value carried, and the charge state follows. -/
def State.enableCharge (s : State) (on : Bool) : State :=
  let s := { s with charge := { s.charge with enable := on } }
  if on then
    if s.charge.state = .off ∧ s.supply.input = .present then s.toCharge .qualify else s
  else if s.charge.state = .fault then s else s.toCharge .off

/-- CHARGE_ENABLE's own rule (R160). -/
def chargeEnable (_ : Port) (b : List Byte) (s : State) : State × Reply :=
  if 1 < field b 0 1 then (s, .done .badValue [])
  else
    let s := s.enableCharge (flagAt b 0)
    (s, .done .ok (encBool s.charge.enable ++ [s.charge.state.code]))

/-- CHARGE_ENABLE (R160). -/
def execChargeEnable (p : Port) (f : Frame) (s : State) : Out := s.doRequest .chargeEnable chargeEnable p f

/-- POWER_TABLE_SET's own rule (R161). -/
def powerTableSet (_ : Port) (b : List Byte) (s : State) : State × Reply :=
  let t := Vector.ofFn fun (i : Fin 8) => clamp 0 3000 (field b (2 * i.val) 2)
  ({ s with charge := { s.charge with table := t } }, .done .ok (encClassTable t))

/-- POWER_TABLE_SET (R161). -/
def execPowerTableSet (p : Port) (f : Frame) (s : State) : Out := s.doRequest .powerTableSet powerTableSet p f

/-- POWER_CLASS's own rule (R162). -/
def powerClass (_ : Port) (b : List Byte) (s : State) : State × Reply :=
  if h : field b 0 1 < 8 then
    let c := { s.charge with cls := ⟨field b 0 1, h⟩ }
    ({ s with charge := c }, .done .ok (beBytes 1 c.cls.val ++ beBytes 2 c.reserve))
  else (s, .done .badValue [])

/-- POWER_CLASS (R162). -/
def execPowerClass (p : Port) (f : Frame) (s : State) : Out := s.doRequest .powerClass powerClass p f

/-- FAULT_CLEAR's own rule (R175). -/
def faultClear (_ : Port) (_ : List Byte) (s : State) : State × Reply :=
  if s.charge.state = .fault then
    let s := s.toCharge (if s.charge.enable then .qualify else .off)
    (s, .done .ok [s.charge.state.code])
  else (s, .done .wrongState [])

/-- FAULT_CLEAR (R175). -/
def execFaultClear (p : Port) (f : Frame) (s : State) : Out := s.doRequest .faultClear faultClear p f

/-- CHARGE_READ's own rule (R181). -/
def chargeRead (_ : Port) (_ : List Byte) (s : State) : State × Reply :=
  let c := s.charge
  (s, .done .ok ([c.state.code] ++ encOpt 1 (fun x => [ChargeState.code x]) c.resume ++ encBool c.enable
    ++ encOpt 1 (fun x => [Therm.code x]) c.therm ++ encOpt 2 (beInt 2) c.temp ++ [c.zone.code]
    ++ beBytes 1 c.cls.val ++ beBytes 2 c.reserve ++ beBytes 2 c.avail ++ beBytes 2 c.budget
    ++ beInt 2 c.trim ++ beInt 2 c.cv ++ beBytes 2 c.ceiling ++ beBytes 2 c.target ++ beBytes 1 c.isetWidth
    ++ beBytes 4 c.safety ++ beBytes 1 c.term ++ encBool c.qual.isSome
    ++ encOpt 15 Snapshot.enc c.snapshot ++ c.settings.enc ++ encClassTable c.table))

/-- CHARGE_READ (R181). -/
def execChargeRead (p : Port) (f : Frame) (s : State) : Out := s.doRequest .chargeRead chargeRead p f

/-- R16, R186: what SOFT_RESET leaves of the Charge Controller and of its generator. -/
def State.chargeSoftReset (s : State) : State :=
  let s := s.toCharge .off
  let s := { s with
    charge := { s.charge with
      cls := 0, resume := none, qual := none, safety := 0, term := 0, avail := 0, budget := 0, trim := 0
      cv := 0, ceiling := 0, target := 0, isetWidth := 0 }
    iset := Generator.stopped }
  s.chargeInput

end Sys2Proof.Machine
end

