-- ==== Sys2Proof/Machine/Catalogue.lean ====
section
/-! DEFINITION. The Clip Catalogue (chapter 5). -/

namespace Sys2Proof.Machine

/-! ### Units and selection -/

/-- R90: a record's units. -/
def Clip.units (x : Clip) : Nat := x.committed + x.reserved

/-- The units of several records together. -/
def unitsOf (xs : List Clip) : Nat := (xs.map Clip.units).sum

/-- R89: the units in use. -/
def Catalogue.inUse (c : Catalogue) : Nat := unitsOf c.clips

/-- R89: the free units. -/
def Catalogue.free (c : Catalogue) : Nat := c.card.capacity - c.inUse

/-- R94, R96: whether a reservation of `u` units leaves at least the floor free. -/
def Catalogue.fits (c : Catalogue) (u : Nat) : Bool := decide (c.card.floor + u ≤ c.free)

/-- The records that are RECYCLING. -/
def Catalogue.recycling (c : Catalogue) : List Clip := c.clips.filter fun x => x.state = .recycling

/-- R90: a candidate is CLOSED or CUT with protection NONE. -/
def Clip.candidate (x : Clip) : Bool :=
  (x.state = .closed || x.state = .cut) && x.protection = .none

/-- R90: the two kinds of need. -/
inductive Need where
  | record
  | units (u : Nat)
  deriving DecidableEq, Repr

/-- R90: whether a need is met with `sel` selected. -/
def Catalogue.meets (c : Catalogue) (need : Need) (sel : List Clip) : Bool :=
  match need with
  | .record => decide (c.clips.length ≤ 127 + c.recycling.length + sel.length)
  | .units u => decide (u + c.card.floor ≤ c.free + unitsOf c.recycling + unitsOf sel)

/-- R91: take candidates in ascending clip number until the need is met or 8 have been taken. -/
def takeVictims (met : List Clip → Bool) : List Clip → List Clip → List Clip
  | taken, [] => taken
  | taken, x :: xs =>
    if met taken || decide (8 ≤ taken.length) then taken else takeVictims met (taken ++ [x]) xs

/-- R86, R91: a victim becomes RECYCLING; a CUT record's cut cause is discarded. -/
def Clip.recycle (x : Clip) : Clip := { x with state := .recycling, cutCause := none }

/-- R90, R91: the selection for a need: the victim list and the catalogue with the victims RECYCLING, or
none when the need cannot be met. -/
def Catalogue.select (c : Catalogue) (need : Need) : Option (List Nat × Catalogue) :=
  let cands := c.clips.filter Clip.candidate
  if c.meets need cands then
    let victims := (takeVictims (c.meets need) [] cands).map Clip.number
    let mark := fun (x : Clip) => if victims.contains x.number then x.recycle else x
    some (victims, { c with clips := c.clips.map mark })
  else none

/-! ### The card -/

/-- CARD_SET's own rule (R83). -/
def cardSet (_ : Port) (b : List Byte) (s : State) : State × Reply :=
  let card : Card := { serial := field b 0 4, capacity := field b 4 4, loop := flagAt b 8
                       floor := field b 9 2 }
  let c := s.catalogue
  if 16777216 < card.capacity ∨ 1 < field b 8 1 then (s, .done .badValue [])
  else if c.openClip.isSome then (s, .done .clipOpen [])
  else if c.clips ≠ [] ∧ card.serial ≠ c.card.serial then (s, .done .wrongState [])
  else if !s.gateOpen then (s, .done .gateClosed [])
  else if card.capacity < c.inUse then (s, .done .badValue [])
  else
    let c := { c with card := card }
    ({ s with catalogue := c }, .done .ok (card.enc ++ beBytes 4 c.free))

/-- CARD_SET (R83). -/
def execCardSet (p : Port) (f : Frame) (s : State) : Out := s.doRequest .cardSet cardSet p f

/-- FORMAT_CATALOGUE's own rule (R84, R120). -/
def formatCatalogue (_ : Port) (_ : List Byte) (s : State) : State × Reply :=
  if s.catalogue.openClip.isSome then (s, .done .clipOpen [])
  else if !s.gateOpen then (s, .done .gateClosed [])
  else ({ s with catalogue := { s.catalogue with clips := [], card := Card.none } }, .done .ok [])

/-- FORMAT_CATALOGUE (R84). -/
def execFormatCatalogue (p : Port) (f : Frame) (s : State) : Out :=
  s.doRequest .formatCatalogue formatCatalogue p f

/-! ### Opening, reserving, progress, closing -/

/-- R92: the record CLIP_OPEN creates. -/
def State.newClip (s : State) : Clip :=
  { number := s.catalogue.nextClip, state := .opened, protection := .none, start := s.stamp
    startFrame := if s.frames.state = .idle then none else some s.frames.n
    ending := none, committed := 0, reserved := 0, frameCount := none, staleBands := 0, pinnedBands := 0
    marks := [], truncated := false, cutCause := none }

/-- CLIP_OPEN's own rule (R92, R93). -/
def clipOpen (_ : Port) (_ : List Byte) (s : State) : State × Reply :=
  let c := s.catalogue
  if c.card.capacity = 0 ∨ c.openClip.isSome then (s, .done .wrongState [])
  else if !s.gateOpen then (s, .done .gateClosed [])
  else if 128 ≤ c.clips.length then
    if c.card.loop then
      match c.select .record with
      | some (victims, c) => ({ s with catalogue := c }, .done .recycleNeeded (encClipNumbers victims))
      | none => (s, .done .full [])
    else (s, .done .full [])
  else if c.nextClip = 4294967295 then (s, .done .full [])
  else
    let x := s.newClip
    ({ s with catalogue := { c with clips := c.clips ++ [x], nextClip := c.nextClip + 1 } },
      .done .ok (beBytes 4 x.number ++ encStamp x.start))

/-- CLIP_OPEN (R92). -/
def execClipOpen (p : Port) (f : Frame) (s : State) : Out := s.doRequest .clipOpen clipOpen p f

/-- R94, R96: the OPEN record's reserved units rise by `u`. -/
def Catalogue.grant (c : Catalogue) (x : Clip) (u : Nat) : Catalogue :=
  c.onClip x.number fun y => { y with reserved := y.reserved + u }

/-- CLIP_RESERVE's own rule (R94). -/
def clipReserve (_ : Port) (b : List Byte) (s : State) : State × Reply :=
  let u := field b 0 4
  let c := s.catalogue
  if u = 0 ∨ 65535 < u then (s, .done .badValue [])
  else
    match c.openClip with
    | none => (s, .done .wrongState [])
    | some x =>
      if c.reservation.isSome then (s, .done .wrongState [])
      else if !s.gateOpen then (s, .done .gateClosed [])
      else if c.fits u then
        let c := c.grant x u
        ({ s with catalogue := c },
          .done .ok (beBytes 4 x.committed ++ beBytes 4 (x.reserved + u) ++ beBytes 4 c.free))
      else if c.card.loop then
        match c.select (.units u) with
        | some (victims, c) =>
          ({ s with catalogue := { c with reservation := some u } },
            .done .recycleNeeded (encClipNumbers victims ++ beBytes 4 u))
        | none => (s, .done .full [])
      else (s, .done .full [])

/-- CLIP_RESERVE (R94). -/
def execClipReserve (p : Port) (f : Frame) (s : State) : Out := s.doRequest .clipReserve clipReserve p f

/-- R96: the re-evaluation of a pending reservation. -/
def State.reevaluate (s : State) : State :=
  let c := s.catalogue
  match c.reservation, c.openClip with
  | some u, some x =>
    if c.fits u then
      ({ s with catalogue := { c.grant x u with reservation := none } }).raise .reserveGranted
    else if c.recycling ≠ [] then s
    else
      match c.select (.units u) with
      | some (_, c) => ({ s with catalogue := c }).raise .recycle
      | none => ({ s with catalogue := { c with reservation := none } }).raise .reserveFailed
  | _, _ => s

/-- CLIP_PROGRESS's own rule (R97). -/
def clipProgress (_ : Port) (b : List Byte) (s : State) : State × Reply :=
  let n := field b 0 4
  let c := s.catalogue
  if 16777216 < n then (s, .done .badValue [])
  else
    match c.openClip with
    | none => (s, .done .wrongState [])
    | some x =>
      if !s.gateOpen then (s, .done .gateClosed [])
      else if n < x.committed ∨ x.committed + x.reserved < n then (s, .done .badValue [])
      else
        let reserved := x.reserved - (n - x.committed)
        ({ s with catalogue := c.onClip x.number fun y => { y with committed := n, reserved := reserved } },
          .done .ok (beBytes 4 n ++ beBytes 4 reserved))

/-- CLIP_PROGRESS (R97). -/
def execClipProgress (p : Port) (f : Frame) (s : State) : Out := s.doRequest .clipProgress clipProgress p f

/-- CLIP_CLOSE's own rule (R98). -/
def clipClose (_ : Port) (b : List Byte) (s : State) : State × Reply :=
  let c := s.catalogue
  match c.openClip with
  | none => (s, .done .wrongState [])
  | some x =>
    if !s.gateOpen then (s, .done .gateClosed [])
    else
      let c := c.onClip x.number fun y =>
        { y with state := .closed, ending := some s.stamp, frameCount := some (field b 0 4), reserved := 0 }
      ({ s with catalogue := { c with reservation := none } },
        .done .ok (beBytes 4 x.number ++ beBytes 4 x.committed ++ encStamp s.stamp))

/-- CLIP_CLOSE (R98). -/
def execClipClose (p : Port) (f : Frame) (s : State) : Out := s.doRequest .clipClose clipClose p f

/-- R99: the catalogue's part of a seal: the OPEN record becomes CUT with the cause and the end given, and
a pending reservation becomes absent. -/
def Catalogue.cutOpen (c : Catalogue) (x : Clip) (cause : CutCause) (ending : Stamp) : Catalogue :=
  { c.onClip x.number (fun y =>
      { y with state := .cut, cutCause := some cause, ending := some ending, reserved := 0 }) with
    reservation := none }

/-! ### Deleting, protecting, forgetting -/

/-- R100, R103, R120: record `n` leaves the catalogue, with its units and its marks. -/
def Catalogue.remove (c : Catalogue) (n : Nat) : Catalogue :=
  { c with clips := c.clips.filter fun x => x.number ≠ n }

/-- CLIP_DELETED's own rule (R100). -/
def clipDeleted (_ : Port) (b : List Byte) (s : State) : State × Reply :=
  let n := field b 0 4
  if !clipNumberOk n then (s, .done .badValue [])
  else
    match s.catalogue.clip n with
    | none => (s, .done .notFound [])
    | some x =>
      if x.state ≠ .recycling then (s, .done .wrongState [])
      else if !s.gateOpen then (s, .done .gateClosed [])
      else
        let s := ({ s with catalogue := s.catalogue.remove n } : State).reevaluate
        (s, .done .ok (beBytes 4 s.catalogue.free))

/-- CLIP_DELETED (R100). -/
def execClipDeleted (p : Port) (f : Frame) (s : State) : Out := s.doRequest .clipDeleted clipDeleted p f

/-- CLIP_PROTECT's own rule (R101). -/
def clipProtect (_ : Port) (b : List Byte) (s : State) : State × Reply :=
  let n := field b 0 4
  if !clipNumberOk n then (s, .done .badValue [])
  else
    match s.catalogue.clip n with
    | none => (s, .done .notFound [])
    | some x =>
      if x.state = .recycling then (s, .done .tooLate [])
      else if !s.gateOpen then (s, .done .gateClosed [])
      else
        let prot := if x.protection = .crash then Protection.crash else Protection.user
        ({ s with catalogue := s.catalogue.onClip n fun y => { y with protection := prot } },
          .done .ok [prot.code])

/-- CLIP_PROTECT (R101). -/
def execClipProtect (p : Port) (f : Frame) (s : State) : Out := s.doRequest .clipProtect clipProtect p f

/-- CLIP_UNPROTECT's own rule (R102). -/
def clipUnprotect (_ : Port) (b : List Byte) (s : State) : State × Reply :=
  let n := field b 0 4
  if !clipNumberOk n then (s, .done .badValue [])
  else
    match s.catalogue.clip n with
    | none => (s, .done .notFound [])
    | some x =>
      if x.state = .recycling then (s, .done .wrongState [])
      else if !s.gateOpen then (s, .done .gateClosed [])
      else
        (({ s with catalogue := s.catalogue.onClip n fun y => { y with protection := .none } } : State).reevaluate,
          .done .ok [])

/-- CLIP_UNPROTECT (R102). -/
def execClipUnprotect (p : Port) (f : Frame) (s : State) : Out :=
  s.doRequest .clipUnprotect clipUnprotect p f

/-- CLIP_FORGET's own rule (R103). -/
def clipForget (_ : Port) (b : List Byte) (s : State) : State × Reply :=
  let n := field b 0 4
  if !clipNumberOk n then (s, .done .badValue [])
  else
    match s.catalogue.clip n with
    | none => (s, .done .notFound [])
    | some x =>
      if x.state = .opened ∨ x.state = .recycling ∨ x.protection ≠ .none then (s, .done .wrongState [])
      else if !s.gateOpen then (s, .done .gateClosed [])
      else
        let s := ({ s with catalogue := s.catalogue.remove n } : State).reevaluate
        (s, .done .ok (beBytes 4 s.catalogue.free))

/-- CLIP_FORGET (R103). -/
def execClipForget (p : Port) (f : Frame) (s : State) : Out := s.doRequest .clipForget clipForget p f

/-! ### Crash protection -/

/-- R105: CRASH protection on a record, unless it is RECYCLING. -/
def Clip.crashProtect (x : Clip) : Clip :=
  if x.state = .recycling then x else { x with protection := .crash }

/-- R85: the predecessor of record `n`, the record present with the next lower clip number. -/
def Catalogue.predecessor (c : Catalogue) (n : Nat) : Option Clip :=
  (c.clips.filter fun x => x.number < n).getLast?

/-- R106: the distance from the earlier of two ticks to the later. -/
def span (a b : Tick) : Nat := if atOrAfter a b then dist a b else dist b a

/-- R107, R122: a record closed in the current tick, the "just-closed record" of a crash event taken after a
CLIP_CLOSE of the same tick. -/
def State.justClosed (s : State) (x : Clip) : Bool := x.state = .closed && x.ending = some s.stamp

/-- R106: whether the newest record qualifies for the crash of an episode that started at `start`: its end lies
within 10,485,760 ticks of the start, or it is the just-closed record, which R107 and R122 name without a bound
(DEDUCED, log 31; unsafe). -/
def State.qualifies (s : State) (start : Tick) (x : Clip) : Bool :=
  (x.state = .closed || x.state = .cut) &&
  match x.ending with
  | some e => e.epoch = s.store.epoch && (decide (span e.tick start ≤ 10485760) || s.justClosed x)
  | none => false

/-- R105 to R107: the catalogue's part of a crash event: the protections it sets and the clip it names. -/
def State.crashProtect (s : State) (start : Tick) : State × Option Nat :=
  let c := s.catalogue
  if !s.gateOpen then (s, none)
  else
    match c.openClip with
    | some x =>
      let c' := c.onClip x.number Clip.crashProtect
      let c' := match c.predecessor x.number with
        | some y => c'.onClip y.number Clip.crashProtect
        | none => c'
      ({ s with catalogue := c' }, some x.number)
    | none =>
      match c.clips.getLast? with
      | some x =>
        if s.qualifies start x then
          ({ s with catalogue := c.onClip x.number Clip.crashProtect }, some x.number)
        else (s, none)
      | none => (s, none)

/-! ### Reporting -/

/-- CLIP_READ's own rule (R108). -/
def clipRead (_ : Port) (b : List Byte) (s : State) : State × Reply :=
  let n := field b 0 4
  if !clipNumberOk n then (s, .done .badValue [])
  else
    match s.catalogue.clip n with
    | none => (s, .done .notFound [])
    | some x => (s, .done .ok x.enc)

/-- CLIP_READ (R108). -/
def execClipRead (p : Port) (f : Frame) (s : State) : Out := s.doRequest .clipRead clipRead p f

/-- CLIP_LIST's filters and their codes (R109, R207). -/
def clipFilter (code : Byte) : Option (Clip → Bool) :=
  if code = 0 then some fun _ => true
  else if code = 1 then some fun x => x.state = .opened
  else if code = 2 then some fun x => x.state = .closed
  else if code = 3 then some fun x => x.state = .cut
  else if code = 4 then some fun x => x.state = .recycling
  else if code = 5 then some fun x => x.protection = .none
  else if code = 6 then some fun x => x.protection = .user
  else if code = 7 then some fun x => x.protection = .crash
  else none

/-- CLIP_LIST's own rule (R109). -/
def clipList (_ : Port) (b : List Byte) (s : State) : State × Reply :=
  match clipFilter (byteAt b 4) with
  | none => (s, .done .badValue [])
  | some keep =>
    let found := s.catalogue.clips.filter fun x => decide (field b 0 4 ≤ x.number) && keep x
    let shown := found.take 16
    (s, .done .ok (beBytes 1 shown.length ++ encBool (decide (16 < found.length))
      ++ shown.flatMap fun x => beBytes 4 x.number))

/-- CLIP_LIST (R109). -/
def execClipList (p : Port) (f : Frame) (s : State) : Out := s.doRequest .clipList clipList p f

/-- CARD_READ's own rule (R110). -/
def cardRead (_ : Port) (_ : List Byte) (s : State) : State × Reply :=
  let c := s.catalogue
  (s, .done .ok (c.card.enc ++ beBytes 4 c.inUse ++ beBytes 4 c.free ++ beBytes 1 c.clips.length
    ++ beBytes 1 c.recycling.length ++ encOpt 4 (beBytes 4) c.reservation ++ beBytes 4 c.nextClip))

/-- CARD_READ (R110). -/
def execCardRead (p : Port) (f : Frame) (s : State) : Out := s.doRequest .cardRead cardRead p f

end Sys2Proof.Machine
end

