-- ==== Sys2Proof/Machine/Motion.lean ====
section
/-! DEFINITION. The Motion Integrator (chapter 3). -/

namespace Sys2Proof.Machine

/-- Three raw values of the sensor (R21). -/
structure Raw3 where
  x : Int
  y : Int
  z : Int
  deriving DecidableEq, Repr

/-- A sample as the link hands it (R32, section 3.1). -/
structure Sample where
  tick  : Tick
  gyro  : Raw3
  accel : Raw3
  first : Bool
  deriving DecidableEq, Repr

/-- A function on each axis. -/
def Axes.map {α β : Type} (f : α → β) (a : Axes α) : Axes β :=
  { yaw := f a.yaw, pitch := f a.pitch, roll := f a.roll }

/-- A function of two values on each axis. -/
def Axes.map2 {α β γ : Type} (f : α → β → γ) (a : Axes α) (b : Axes β) : Axes γ :=
  { yaw := f a.yaw b.yaw, pitch := f a.pitch b.pitch, roll := f a.roll b.roll }

/-! ### Stages 1 to 3 -/

/-- R40: the value of a source axis. -/
def Raw3.get (r : Raw3) : SrcAxis → Int
  | .x => r.x
  | .y => r.y
  | .z => r.z

/-- R40: the mapped value of a camera axis. "Negating −32768 gives 32767". -/
def AxisMap.apply (m : AxisMap) (r : Raw3) : Int :=
  if m.minus then min 32767 (-(r.get m.src)) else r.get m.src

/-- R41: the scaled rate u. -/
def scaled (gain : Nat) (g : Int) : Int := saturate 32767 (nearest (g * gain) 1024)

/-- R41: the corrected rate w. -/
def corrected (u b : Int) : Int := saturate 32767 (u - b)

/-- R42: the interval dt and whether the sample is RESTART. -/
def Motion.interval (m : Motion) (pImu : Nat) (x : Sample) : Nat × Bool :=
  match m.prev with
  | some p => if x.first || decide (8 * pImu < dist x.tick p) then (0, true) else (dist x.tick p, false)
  | none => (0, true)

/-- The still window empty (R48). -/
def Motion.emptyStill (m : Motion) : Motion := { m with stillCount := 0, stillSum := Axes.all 0 }

/-- R42: what a RESTART sample does before its still classification. A run-committed watch keeps its
indication (log 15). -/
def Motion.restarted (m : Motion) : Motion :=
  { m.emptyStill with watch := m.watch.map fun w => { w with run := 0 } }

/-! ### Stage 4 -/

/-- R47: a sample is still when |u| ≤ S on every axis. -/
def isStill (threshold : Nat) (u : Axes Int) : Bool :=
  decide (u.yaw.natAbs ≤ threshold) && decide (u.pitch.natAbs ≤ threshold)
    && decide (u.roll.natAbs ≤ threshold)

/-- R50: the magnitude m. -/
def magnitude (a : Axes Int) : Nat :=
  max (min 32767 a.yaw.natAbs) (max (min 32767 a.pitch.natAbs) (min 32767 a.roll.natAbs))

/-- R48: a bias from a sum over 4096 samples. -/
def windowBias (sum : Int) : Int := clampInt (-2048) 2047 (nearest sum 4096)

/-- R48: the still window takes a sample. -/
def Motion.stillWindow (m : Motion) (still : Bool) (u : Axes Int) : Motion :=
  if !still then m.emptyStill
  else
    let sum := Axes.map2 (· + ·) m.stillSum u
    if m.stillCount + 1 = 4096 then { m with bias := sum.map windowBias }.emptyStill
    else { m with stillCount := m.stillCount + 1, stillSum := sum }

/-- R50, R51: the shock evaluation of a sample with magnitude `k`: the episode and the watch afterwards,
and the episode that ends at the sample, if one does. -/
def Motion.shockEval (m : Motion) (tick : Tick) (k : Nat) (band : Fin 4) : Motion × Option Episode :=
  match m.episode with
  | none =>
    if m.settings.shock ≤ k then
      ({ m with episode := some { start := tick, peak := k, band := band, quiet := 0 }, watch := none }, none)
    else (m, none)
  | some e =>
    let e := { e with peak := max e.peak k, quiet := if m.settings.shock ≤ k then 0 else e.quiet + 1 }
    if e.quiet = 64 then ({ m with episode := none }, some e) else ({ m with episode := some e }, none)

/-- R53: a watch takes a sample. -/
def Watch.step (still : Bool) (w : Watch) : Option Watch :=
  if still then some { w with run := w.run + 1 }
  else if w.committed then none
  else some { w with run := 0 }

/-! ### Stages 5 and 6 -/

/-- R43, R44: the bound of the 40-bit accumulator, 2^39 − 1. -/
def accBound : Nat := 2 ^ 39 - 1

/-- R43: C' of one axis after saturation. -/
def integrate (leak dt : Nat) (c w : Int) : Int :=
  saturate accBound (c - truncDiv c (2 ^ leak) + w * dt)

/-- R44: whether C' exceeds its limit. -/
def pins (limit : Nat) (c : Int) : Bool := decide (limit < c.natAbs)

/-- R46: append an entry; of 64 entries the oldest is removed first. -/
def appendEntry (h : List HistEntry) (e : HistEntry) : List HistEntry :=
  (if 64 ≤ h.length then h.tail else h) ++ [e]

/-- R43, R44, R46: leak, integration, pinning and the history entry of a sample. -/
def Motion.integrateSample (m : Motion) (leak dt : Nat) (w : Axes Int) (tick : Tick) (restart : Bool) :
    Motion :=
  let c := Axes.map2 (integrate leak dt) m.acc w
  let pinned := Axes.map2 pins m.limit c
  let acc := Axes.map2 saturate m.limit c
  { m with acc := acc
           history := appendEntry m.history { tick := tick, acc := acc, restart := restart, pinned := pinned } }

/-! ### Stage 7 -/

/-- R51, R114: a shock event goes to the Mark Pool, and SHOCK is raised on Port B. -/
def State.shockEvent (s : State) (e : Episode) : State :=
  (s.shockMark e.start e.peak e.band).raise .shock

/-- R53: a crash watch begins for the episode `e`. -/
def State.beginWatch (s : State) (e : Episode) : State :=
  { s with motion := { s.motion with
      watch := some { start := e.start, peak := e.peak, run := 0, committed := false
                      timer := some (later s.tick (2 ^ 22)) } } }

/-- R51: the episode `e` has ended at a sample. -/
def State.episodeEnd (s : State) (e : Episode) : State :=
  let s := s.shockEvent e
  if s.motion.settings.crash ≤ e.peak then s.beginWatch e else s

/-- R55, R107, R115: a crash has been found: protection, then the mark, then CRASH on both ports. -/
def State.crashEvent (s : State) (w : Watch) : State :=
  let s := { s with motion := { s.motion with watch := none } }
  let (s, named) := s.crashProtect w.start
  (s.crashMark named w.start w.peak).raise .crash

/-- R55: a crash is found when the run count reaches 2048. -/
def State.crashCheck (s : State) : State :=
  match s.motion.watch with
  | some w => if 2048 ≤ w.run then s.crashEvent w else s
  | none => s

/-! ### The path of one sample -/

/-- R39, stages 1 to 6 up to the appended entry: the integrator after the sample, and the episode that
ended at it. -/
def Motion.absorb (m : Motion) (x : Sample) (pImu : Nat) (band : Fin 4) : Motion × Option Episode :=
  let g := m.settings.map.map fun a => a.apply x.gyro
  let a := m.settings.map.map fun a => a.apply x.accel
  let u := g.map (scaled m.settings.gain)
  let w := Axes.map2 corrected u m.bias
  let (dt, restart) := m.interval pImu x
  let m := { if restart then m.restarted else m with prev := some x.tick }
  let still := isStill m.settings.still u
  let m := m.stillWindow still u
  let (m, ended) := m.shockEval x.tick (magnitude a) band
  let m := { m with watch := m.watch.bind (Watch.step still) }
  (m.integrateSample m.settings.leak[band] dt w x.tick restart, ended)

/-- R39: the integrator receives a sample. -/
def State.sample (s : State) (x : Sample) : State :=
  let (m, ended) := s.motion.absorb x s.link.settings.pImu s.wheel.band
  let s := ({ s with motion := m }).examine
  match ended with
  | some e => s.episodeEnd e
  | none => s.crashCheck

/-- R52: the link leaves RUNNING through a stall, IMU_STOP or the stop at supply shutdown. -/
def State.motionStop (s : State) : State :=
  let ended := s.motion.episode
  let s := { s with motion := { s.motion.emptyStill with episode := none, watch := none } }
  match ended with
  | some e => s.shockEvent e
  | none => s

/-- R54: the watch timer expires: a run in progress becomes committed, else the watch ends. -/
def Watch.expire (w : Watch) : Option Watch :=
  if w.run = 0 then none else some { w with committed := true, timer := none }

/-- WATCH_TIMER_EXPIRY (R54). -/
def execWatchTimerExpiry (s : State) : Out :=
  s.event (fun s => s.due (s.motion.watch.bind Watch.timer)) fun s =>
    { s with motion := { s.motion with watch := s.motion.watch.bind Watch.expire } }

/-! ### Requests -/

/-- BIAS_SET's own rule (R49). -/
def biasSet (_ : Port) (b : List Byte) (s : State) : State × Reply :=
  let v : Axes Int :=
    { yaw := clampInt (-2048) 2047 (fieldInt b 0 2), pitch := clampInt (-2048) 2047 (fieldInt b 2 2)
      roll := clampInt (-2048) 2047 (fieldInt b 4 2) }
  ({ s with motion := { s.motion.emptyStill with bias := v } },
    .done .ok (beInt 2 v.yaw ++ beInt 2 v.pitch ++ beInt 2 v.roll))

/-- BIAS_SET (R49). -/
def execBiasSet (p : Port) (f : Frame) (s : State) : Out := s.doRequest .biasSet biasSet p f

/-- R40: the axis map of MOTION_SET: three entries naming distinct source axes, or none. -/
def readMap (b : List Byte) : Option (Axes AxisMap) :=
  match AxisMap.read (byteAt b 2), AxisMap.read (byteAt b 3), AxisMap.read (byteAt b 4) with
  | some y, some p, some r =>
    if y.src ≠ p.src ∧ y.src ≠ r.src ∧ p.src ≠ r.src then some { yaw := y, pitch := p, roll := r } else none
  | _, _, _ => none

/-- R57: the settings MOTION_SET carries, clamped. -/
def readMotion (map : Axes AxisMap) (b : List Byte) : MotionSettings :=
  let leak := fun off => clamp 4 16 (field b off 1)
  let ts := clamp 1 32767 (field b 11 2)
  { gain := clamp 1 4095 (field b 0 2), map := map, leak := #v[leak 5, leak 6, leak 7, leak 8]
    still := clamp 0 255 (field b 9 2), shock := ts, crash := max ts (clamp 1 32767 (field b 13 2)) }

/-- MOTION_SET's own rule (R57). -/
def motionSet (_ : Port) (b : List Byte) (s : State) : State × Reply :=
  match readMap b with
  | some map =>
    let x := readMotion map b
    ({ s with motion := { s.motion.emptyStill with settings := x } }, .done .ok x.enc)
  | none => (s, .done .badValue [])

/-- MOTION_SET (R57). -/
def execMotionSet (p : Port) (f : Frame) (s : State) : Out := s.doRequest .motionSet motionSet p f

/-- R58: the episode state as MOTION_READ reports it: NONE, ACTIVE, WATCHING. -/
def Motion.episodeCode (m : Motion) : Byte :=
  if m.episode.isSome then 1 else if m.watch.isSome then 2 else 0

/-- R58: the peak of the ACTIVE or watched episode, or 0. -/
def Motion.peak (m : Motion) : Nat :=
  match m.episode, m.watch with
  | some e, _ => e.peak
  | none, some w => w.peak
  | none, none => 0

/-- The three values of an `Axes` in the order yaw, pitch, roll. -/
def Axes.toList {α : Type} (a : Axes α) : List α := [a.yaw, a.pitch, a.roll]

/-- MOTION_READ's own rule (R58). -/
def motionRead (_ : Port) (_ : List Byte) (s : State) : State × Reply :=
  let m := s.motion
  (s, .done .ok (m.acc.toList.flatMap (beInt 5) ++ m.limit.toList.flatMap (beBytes 5)
    ++ m.bias.toList.flatMap (beInt 2) ++ beBytes 2 m.stillCount ++ [m.episodeCode] ++ beBytes 2 m.peak
    ++ beBytes 1 m.history.length ++ m.settings.enc))

/-- MOTION_READ (R58). -/
def execMotionRead (p : Port) (f : Frame) (s : State) : Out := s.doRequest .motionRead motionRead p f

end Sys2Proof.Machine
end

