-- ==== Sys2Proof/Machine/Link.lean ====
section
/-! DEFINITION. The Motion Sensor Link (chapter 2). -/

namespace Sys2Proof.Machine

/-! ### Pins and bus -/

/-- R19: the level of IRAIL_EN. -/
def Link.rail (l : Link) : Level :=
  match l.state with
  | .powering | .configuring | .running => .high
  | .off | .recovering | .failed => .low

/-- R21: the first byte of a transfer: the address in the low seven bits, the top bit set for a read. -/
def busAddress (read : Bool) (a : Byte) : Byte := (a &&& 0x7F) ||| (if read then 0x80 else 0)

/-- R21: the bytes the part sends in the transfer on the bus. -/
def Link.busSends (l : Link) : List Byte :=
  match l.bus with
  | .free => []
  | .identityRead => [busAddress true l.settings.idAddr]
  | .bankWrite i => [busAddress false l.bank[i].addr, l.bank[i].value]
  | .verifyRead i => [busAddress true l.bank[i].addr]
  | .sampleBurst _ _ => [busAddress true l.settings.sampleAddr]
  | .passThrough a => if a.write then [busAddress false a.addr, a.data] else [busAddress true a.addr]

/-- R21: a signed 16-bit value from two bytes of a burst, in the order read. -/
def ByteOrder.value (o : ByteOrder) (b0 b1 : Byte) : Int :=
  match o with
  | .little => fieldInt [b1, b0] 0 2
  | .big => fieldInt [b0, b1] 0 2

/-- R21, R32: the sample of a burst for the capture `t`. -/
def assemble (o : ByteOrder) (b : Vector Byte 12) (t : Tick) (first : Bool) : Sample :=
  { tick := t, first := first
    gyro := { x := o.value b[0] b[1], y := o.value b[2] b[3], z := o.value b[4] b[5] }
    accel := { x := o.value b[6] b[7], y := o.value b[8] b[9], z := o.value b[10] b[11] } }

/-- Put a transfer on the bus, or free it. -/
def State.onBus (s : State) (b : Bus) : State := { s with link := { s.link with bus := b } }

/-- R31, R33: the span of the stall timer. -/
def Link.stallSpan (l : Link) : Nat := 4 * l.settings.pImu

/-! ### Leaving the powered states -/

/-- R25, R28, R36: an IMU_ACCESS whose link leaves RUNNING completes WRONG_STATE, with the address and no
data. -/
def State.dropAccess (s : State) (a : Access) : State := s.complete a.ticket .wrongState [a.addr]

/-- R19, R25, R28: the link enters `x`, a state with the rail off. The bus is cut off, the held DRDY
capture discarded, every timer cancelled, every queued IMU_ACCESS completed WRONG_STATE; leaving RUNNING
the integrator acts by R52. -/
def State.linkDown (s : State) (x : LinkState) : State :=
  let running := s.link.state = .running
  let s := s.link.queue.foldl State.dropAccess s
  let s := { s.emptied .drdy with link := { s.link with
    state := x, bus := .free, queue := [], replaced := false, startup := none, recovery := none
    stall := none } }
  if running then s.motionStop else s

/-- R25: what IMU_STOP does, and what the stop at a supply shutdown does. -/
def State.linkStop (s : State) : State := if s.link.state = .off then s else s.linkDown .off

/-- R28: an attempt fails. -/
def State.attemptFails (s : State) : State :=
  let n := s.link.attempts
  if n < 3 then
    let s := s.linkDown .recovering
    { s with link := { s.link with attempts := n + 1, recovery := some (later s.tick (2 ^ 14)) } }
  else (s.linkDown .failed).raise .imuFailed

/-! ### Starting and configuring -/

/-- R24, R29: the link enters POWERING, with the start-up timer running. -/
def State.powerUp (s : State) : State :=
  { s with link := { s.link with
      state := .powering, recovery := none, startup := some (later s.tick (2 ^ 16)) } }

/-- R30: the link enters RUNNING. -/
def State.enterRunning (s : State) : State :=
  let s := { s with link := { s.link with
    state := .running, bus := .free, stall := some (later s.tick s.link.stallSpan), first := true
    replaced := false } }
  if 0 < s.link.attempts then s.raise .imuRecovered else s

/-- R27: the first valid bank entry at or above index `i`. -/
def Link.nextEntry (l : Link) (i : Nat) : Option (Fin 32) :=
  (List.finRange 32).find? fun j => decide (i ≤ j.val) && l.bank[j].valid

/-- R27: the replay goes on from index `i`. -/
def State.replay (s : State) (i : Nat) : State :=
  match s.link.nextEntry i with
  | some j => s.onBus (.bankWrite j)
  | none => s.enterRunning

/-- STARTUP_EXPIRY (R26). -/
def execStartupExpiry (s : State) : Out :=
  s.event (fun s => s.due s.link.startup) fun s =>
    { s with link := { s.link with state := .configuring, startup := none, bus := .identityRead } }

/-- IDENTITY_READ_COMPLETE (R26). -/
def execIdentityReadComplete (value : Byte) (s : State) : Out :=
  s.event (fun s => s.link.bus = .identityRead) fun s =>
    if value = s.link.settings.idValue then s.replay 0 else s.attemptFails

/-- R27: a bank write completes. -/
def State.bankWritten (s : State) : State :=
  match s.link.bus with
  | .bankWrite i => if s.link.bank[i].verify then s.onBus (.verifyRead i) else s.replay (i + 1)
  | _ => s

/-- BANK_WRITE_COMPLETE (R27). -/
def execBankWriteComplete (s : State) : Out := s.whenPowered State.bankWritten

/-- R27: a verify read completes with `value`. -/
def State.verified (value : Byte) (s : State) : State :=
  match s.link.bus with
  | .verifyRead i => if value = s.link.bank[i].value then s.replay (i + 1) else s.attemptFails
  | _ => s

/-- VERIFY_READ_COMPLETE (R27). -/
def execVerifyReadComplete (value : Byte) (s : State) : Out := s.whenPowered (State.verified value)

/-- RECOVERY_EXPIRY (R29). -/
def execRecoveryExpiry (s : State) : Out := s.event (fun s => s.due s.link.recovery) State.powerUp

/-- STALL_EXPIRY (R33). -/
def execStallExpiry (s : State) : Out := s.event (fun s => s.due s.link.stall) State.attemptFails

/-! ### Sampling and the arbiter -/

/-- R34: the bus has become free: a held DRDY capture first (its read GAP as `gap` says), then the oldest
waiting IMU_ACCESS, else the bus stays free. -/
def State.serveBus (s : State) (gap : Bool) : State :=
  match s.channels.drdy with
  | some t =>
    let s := s.emptied .drdy
    { s with link := { s.link with bus := .sampleBurst t gap, replaced := false } }
  | none =>
    match s.link.queue with
    | a :: _ => s.onBus (.passThrough a)
    | [] => s.onBus .free

/-- R31: a DRDY capture in RUNNING restarts the stall timer; on a free bus its burst starts, else it is
held. `replaced` says whether it replaced a held one (log 24). A second capture in one tick, which R46 says does
not occur, is taken as any other (DESIGN CHOICE, log 32; unsafe). -/
def State.drdyRunning (s : State) : State :=
  let held := s.channels.drdy.isSome
  let s := { s with link := { s.link with stall := some (later s.tick s.link.stallSpan) } }
  if s.link.bus = .free then
    ((s.capture .drdy s.tick).emptied .drdy).onBus (.sampleBurst s.tick false)
  else
    let s := s.capture .drdy s.tick
    { s with link := { s.link with replaced := held } }

/-- DRDY_CAPTURE (R31); out of RUNNING the capture is taken and discarded (R19). -/
def execDrdyCapture (s : State) : Out :=
  s.whenPowered fun s =>
    if s.link.state = .running then s.drdyRunning else (s.capture .drdy s.tick).emptied .drdy

/-- R32: a sample burst completes with the bytes read. -/
def State.burstDone (bytes : Vector Byte 12) (s : State) : State :=
  match s.link.bus with
  | .sampleBurst t gap =>
    let s := s.sample (assemble s.link.settings.order bytes t s.link.first)
    let s := { s with link := { s.link with first := false, gaps := count16 gap s.link.gaps } }
    s.serveBus true
  | _ => s

/-- SAMPLE_BURST_COMPLETE (R32). -/
def execSampleBurstComplete (bytes : Vector Byte 12) (s : State) : Out :=
  s.whenPowered (State.burstDone bytes)

/-- R36: a pass-through transfer completes; in a READ the sensor sent `value`. -/
def State.passDone (value : Byte) (s : State) : State :=
  match s.link.bus with
  | .passThrough a =>
    let s := s.complete a.ticket .ok [a.addr, if a.write then a.data else value]
    let s := { s with link := { s.link with queue := s.link.queue.filter fun x => x.ticket != a.ticket } }
    s.serveBus s.link.replaced
  | _ => s

/-- PASS_THROUGH_COMPLETE (R36). -/
def execPassThroughComplete (value : Byte) (s : State) : Out := s.whenPowered (State.passDone value)

/-! ### Requests -/

/-- IMU_LINK_SET's own rule (R20). -/
def imuLinkSet (_ : Port) (b : List Byte) (s : State) : State × Reply :=
  if s.link.state ≠ .off ∧ s.link.state ≠ .failed then (s, .done .wrongState [])
  else if 127 < field b 0 1 ∨ 116 < field b 2 1 ∨ 1 < field b 3 1 then (s, .done .badValue [])
  else
    let x : LinkSettings :=
      { idAddr := byteAt b 0, idValue := byteAt b 1, sampleAddr := byteAt b 2
        order := if byteAt b 3 = 0 then .little else .big, pImu := clamp 64 16384 (field b 4 4) }
    ({ s with link := { s.link with settings := x } }, .done .ok x.enc)

/-- IMU_LINK_SET (R20). -/
def execImuLinkSet (p : Port) (f : Frame) (s : State) : Out := s.doRequest .imuLinkSet imuLinkSet p f

/-- IMU_BANK_WRITE's own rule (R22). -/
def imuBankWrite (_ : Port) (b : List Byte) (s : State) : State × Reply :=
  let e : BankEntry :=
    { valid := flagAt b 1, addr := byteAt b 2, value := byteAt b 3, verify := flagAt b 4, locked := flagAt b 5 }
  if h : field b 0 1 < 32 then
    if 127 < field b 2 1 then (s, .done .badValue [])
    else if s.link.state = .configuring then (s, .done .wrongState [])
    else ({ s with link := { s.link with bank := s.link.bank.set (field b 0 1) e h } }, .done .ok e.enc)
  else (s, .done .badValue [])

/-- IMU_BANK_WRITE (R22). -/
def execImuBankWrite (p : Port) (f : Frame) (s : State) : Out := s.doRequest .imuBankWrite imuBankWrite p f

/-- IMU_BANK_READ's own rule (R23). -/
def imuBankRead (_ : Port) (b : List Byte) (s : State) : State × Reply :=
  if h : field b 0 1 < 32 then (s, .done .ok (s.link.bank[field b 0 1]'h).enc)
  else (s, .done .badValue [])

/-- IMU_BANK_READ (R23). -/
def execImuBankRead (p : Port) (f : Frame) (s : State) : Out := s.doRequest .imuBankRead imuBankRead p f

/-- IMU_START's own rule (R24). -/
def imuStart (_ : Port) (_ : List Byte) (s : State) : State × Reply :=
  if s.link.state = .off ∨ s.link.state = .failed then
    (({ s with link := { s.link with attempts := 0, gaps := 0 } } : State).powerUp, .done .ok [])
  else (s, .done .wrongState [])

/-- IMU_START (R24). -/
def execImuStart (p : Port) (f : Frame) (s : State) : Out := s.doRequest .imuStart imuStart p f

/-- IMU_STOP's own rule (R25). -/
def imuStop (_ : Port) (_ : List Byte) (s : State) : State × Reply := (s.linkStop, .done .ok [])

/-- IMU_STOP (R25). -/
def execImuStop (p : Port) (f : Frame) (s : State) : Out := s.doRequest .imuStop imuStop p f

/-- R35: whether a valid and locked bank entry names the address. -/
def Link.lockedAddr (l : Link) (a : Byte) : Bool :=
  l.bank.toList.any fun e => e.valid && e.locked && e.addr == a

/-- R34, R35: an accepted IMU_ACCESS joins the queue, and starts at once on a free bus. -/
def State.joinAccess (s : State) (a : Access) : State :=
  let s := { s with link := { s.link with queue := s.link.queue ++ [a] } }
  if s.link.bus = .free then s.onBus (.passThrough a) else s

/-- IMU_ACCESS's own rule (R35). Direction READ is 0 and WRITE is 1 (R207). -/
def imuAccess (p : Port) (b : List Byte) (s : State) : State × Reply :=
  let a : Access :=
    { ticket := s.ticket p, write := flagAt b 0, addr := byteAt b 1, data := byteAt b 2 }
  if 1 < field b 0 1 ∨ 127 < field b 1 1 then (s, .done .badValue [])
  else if s.link.state ≠ .running then (s, .done .wrongState [])
  else if a.write && s.link.lockedAddr a.addr then (s, .done .denied [])
  else (s.joinAccess a, .inFlight)

/-- IMU_ACCESS (R35). -/
def execImuAccess (p : Port) (f : Frame) (s : State) : Out := s.doRequest .imuAccess imuAccess p f

/-- IMU_STATUS's own rule (R37). -/
def imuStatus (_ : Port) (_ : List Byte) (s : State) : State × Reply :=
  let l := s.link
  (s, .done .ok ([l.state.code] ++ beBytes 1 l.attempts ++ beBytes 2 l.gaps ++ l.settings.enc
    ++ beBytes 1 l.queue.length))

/-- IMU_STATUS (R37). -/
def execImuStatus (p : Port) (f : Frame) (s : State) : Out := s.doRequest .imuStatus imuStatus p f

/-- R38: what SOFT_RESET leaves of the link. -/
def Link.softReset (l : Link) : Link :=
  { l with state := .off, attempts := 0, gaps := 0, bus := .free, queue := [], replaced := false
           startup := none, recovery := none, stall := none }

end Sys2Proof.Machine
end

