-- ==== Sys2Proof/Machine/Retained.lean ====
section
/-! DEFINITION. The Retained Store (chapter 7): the seal, the write gate, loss of supply, POR, and the two
recovery requests. -/

namespace Sys2Proof.Machine

/-! ### The seal -/

/-- R134, step 4: a seal with cause HOLD_EXPIRED or HARD_CUT closes the gate. -/
def CutCause.closesGate : CutCause → Bool
  | .holdExpired | .hardCut => true
  | .forced | .unsealed => false

/-- R134, steps 1 to 3, for the OPEN record `x`: the record becomes CUT, the cut record is written (R135),
SEALED is raised. -/
def State.cutClip (s : State) (x : Clip) (cause : CutCause) : State :=
  let cut : CutRec :=
    { number := x.number, committed := x.committed, time := s.stamp, vbat := s.supply.table.map MeasTable.vbat
      charge := some s.charge.state, cause := cause }
  ({ s with catalogue := s.catalogue.cutOpen x cause s.stamp, store := { s.store with cut := some cut } }).raise
    .sealed

/-- R134, R136: a seal with cause HOLD_EXPIRED, HARD_CUT or FORCED. -/
def State.seal (s : State) (cause : CutCause) : State :=
  let s := match s.catalogue.openClip with
    | some x => s.cutClip x cause
    | none => s
  if cause.closesGate then { s with store := { s.store with gate := .closed } } else s

/-! ### The comparator and the gate -/

/-- COMPARATOR_FALL (R131, R132): VSYS falls below 2900 mV. -/
def execComparatorFall (s : State) : Out :=
  s.event (fun s => s.store.comparator = .high) fun s =>
    { s with store := { s.store with comparator := .low, gate := .closed } }

/-- COMPARATOR_RISE (R131, R132): VSYS rises above 3100 mV; in SHUTDOWN the gate stays as it is. -/
def execComparatorRise (s : State) : Out :=
  s.event (fun s => s.store.comparator = .low) fun s =>
    { s with store := { s.store with
        comparator := .high
        gate := if s.supply.state = .shutdown then s.store.gate else .opened } }

/-! ### Loss of supply -/

/-- VSYS_LOSS (R124): VSYS becomes absent. -/
def execVsysLoss (s : State) : Out :=
  s.whenPowered fun s => { s with store := { s.store with vsys := false } }

/-- RETENTION_LOSS (R125): VBKP falls below 1500 mV while VSYS is absent; the latch becomes CLEAR. -/
def execRetentionLoss (s : State) : Out :=
  .next (if s.store.vsys then s else { s with store := { s.store with latch := false } })

/-! ### POR -/

/-- R131: the comparator level at a POR. -/
def comparatorAt (vsys : Nat) : Level := if 3100 < vsys then .high else .low

/-- R132: the gate at a POR. -/
def gateAt (l : Level) : Gate := if l = .high then .opened else .closed

/-- R128, R135: the cut record of an UNSEALED seal of `x`. -/
def unsealedCut (x : Clip) : CutRec :=
  { number := x.number, committed := x.committed, time := x.start, vbat := none, charge := none
    cause := .unsealed }

/-- R127, R128: the retained items after a POR with the latch SET: the catalogue, the cut record. -/
def recover (c : Catalogue) (cut : Option CutRec) : Catalogue × Option CutRec :=
  match c.openClip with
  | some x => (c.cutOpen x .unsealed x.start, some (unsealedCut x))
  | none => (c, cut)

/-- R126 to R130: the store's work at a POR with VSYS at `vsys` mV. -/
def storeAtPor (s : State) (vsys : Nat) : Catalogue × Store :=
  let level := comparatorAt vsys
  if s.store.latch then
    let (c, cut) := recover s.catalogue s.store.cut
    (c, { vsys := true, latch := true, epoch := s.store.epoch + 1, cut := cut
          cause := if cut.isSome then .cutPresent else .intact, comparator := level, gate := gateAt level })
  else
    (Catalogue.initial, { vsys := true, latch := true, epoch := 0, cut := none, cause := .lost
                          comparator := level, gate := gateAt level })

/-- R126: the part after a POR. Every block takes its POR values, the retained items as the store decides,
and RECOVERY is raised on Port B (R130). The command queue is the model's. -/
def State.por (s : State) (vsys : Nat) (wheel : Level) : State :=
  let kept := storeAtPor s vsys
  ({ State.reset with
      catalogue := kept.1, store := kept.2, qualifier := Qualifier.atReset wheel
      portA := PortState.atPor, portB := PortState.atPor, pending := s.pending } : State).raise .recovery

/-- POR (R126): VSYS rises from absent to `vsys` mV, the WHEEL input at `wheel`. With VSYS present it
stands for a loss and a return (log 5). -/
def execPor (vsys : Nat) (wheel : Level) (s : State) : Out := .next (s.por vsys wheel)

/-! ### Reading and clearing the cut -/

/-- RECOVERY_READ's own rule (R138). -/
def recoveryRead (_ : Port) (_ : List Byte) (s : State) : State × Reply :=
  let x := s.store
  (s, .done .ok ([x.cause.code] ++ encBool x.latch ++ beBytes 2 x.epoch.toNat ++ [x.gate.code]
    ++ encLevel x.comparator ++ encOpt 21 CutRec.enc x.cut))

/-- RECOVERY_READ (R138). -/
def execRecoveryRead (p : Port) (f : Frame) (s : State) : Out := s.doRequest .recoveryRead recoveryRead p f

/-- RECOVERY_CLEAR's own rule (R139). -/
def recoveryClear (_ : Port) (b : List Byte) (s : State) : State × Reply :=
  let n := field b 0 4
  if !clipNumberOk n then (s, .done .badValue [])
  else
    match s.store.cut with
    | none => (s, .done .notFound [])
    | some c =>
      if c.number ≠ n then (s, .done .wrongState [])
      else if !s.gateOpen then (s, .done .gateClosed [])
      else ({ s with store := { s.store with cut := none } }, .done .ok [])

/-- RECOVERY_CLEAR (R139). -/
def execRecoveryClear (p : Port) (f : Frame) (s : State) : Out :=
  s.doRequest .recoveryClear recoveryClear p f

end Sys2Proof.Machine
end

