-- ==== Sys2Proof/Machine/Rail.lean ====
section
/-! DEFINITION. The media rail (sections 8.4 and 8.5). -/

namespace Sys2Proof.Machine

/-- Section 8.4: the level of MRAIL_EN. -/
def Supply.mrailEn (x : Supply) : Level :=
  match x.rail with
  | .off => .low
  | .ramping _ | .on => .high

/-- Whether the request of a ticket is still in flight (R191). -/
def State.inFlight (s : State) (t : Ticket) : Bool :=
  match (s.port t.port).slot with
  | .working _ n => n = t.taking
  | _ => false

/-- The RAIL_ON in flight, while the rail is RAMPING. -/
def State.railOwner (s : State) : Option Ticket :=
  match s.supply.rail with
  | .ramping t => if s.inFlight t then some t else none
  | _ => none

/-- R155: what the media rail going off does to the other blocks. -/
def State.railEffects (s : State) : State :=
  let s := { s with supply := { s.supply with rail := .off, ramp := none }
                    charge := { s.charge with cls := 0 } }
  s.frameRailOff.abandon .a

/-- R153 to R155: the media rail goes off, if it is not OFF. A RAIL_ON in flight completes with `st` after
the emptying of Port A's slot; with none it is abandoned (SOFT_RESET). -/
def State.railGoesOff (s : State) (st : Option Status) : State :=
  if s.supply.rail = .off then s
  else
    match s.railOwner, st with
    | some t, some x => s.railEffects.finish t.port { status := x, kind := Kind.code .railOn, body := [] }
    | _, _ => s.railEffects

/-- R152: whether the battery and input allow the rail on. -/
def Supply.canPower (x : Supply) : Bool :=
  x.input = .present ||
  match x.table with
  | some m => decide (x.settings.vStart ≤ m.vbat)
  | none => false

/-- R152: the rail starts: ON at once when MRAIL_PG is high already, else RAMPING. That the OK of the first case
carries the rail state is the model's choice, as R152 names no field there (log 14). -/
def State.startRail (s : State) (p : Port) (pg : Level) : State × Reply :=
  match pg with
  | .high => ({ s with supply := { s.supply with rail := .on, ramp := none } }, .done .ok [Rail.code .on])
  | .low =>
    ({ s with supply := { s.supply with rail := .ramping (s.ticket p), ramp := some (later s.tick 131072) } },
      .inFlight)

/-- RAIL_ON's own rule (R152), with MRAIL_PG at `pg`. -/
def railOn (pg : Level) (p : Port) (_ : List Byte) (s : State) : State × Reply :=
  if s.supply.state ≠ .normal then (s, .done .wrongState [])
  else
    match s.supply.rail with
    | .on => (s, .done .ok [Rail.code .on])
    | .ramping _ => (s, .done .wrongState [])
    | .off => if s.supply.canPower then s.startRail p pg else (s, .done .lowBattery [])

/-- RAIL_ON (R152). -/
def execRailOn (p : Port) (f : Frame) (pg : Level) (s : State) : Out := s.doRequest .railOn (railOn pg) p f

/-- R153: MRAIL_PG rises in RAMPING: the rail is ON and the RAIL_ON completes OK. -/
def State.railUp (s : State) : State :=
  match s.supply.rail with
  | .ramping t =>
    ({ s with supply := { s.supply with rail := .on, ramp := none } }).complete t .ok [Rail.code .on]
  | _ => s

/-- MRAIL_PG_RISE (R153); out of RAMPING it changes nothing. -/
def execMrailPgRise (s : State) : Out := s.whenPowered State.railUp

/-- RAMP_TIMEOUT (R153). -/
def execRampTimeout (s : State) : Out :=
  s.event (fun s => s.due s.supply.ramp) fun s => s.railGoesOff (some .timeout)

/-- R154: what an accepted RAIL_OFF does: the seal of an OPEN clip, then the rail. -/
def State.railOff (s : State) : State :=
  let s := if s.catalogue.openClip.isSome then s.seal .forced else s
  s.railGoesOff (some .wrongState)

/-- RAIL_OFF's own rule (R154). -/
def railOff (_ : Port) (b : List Byte) (s : State) : State × Reply :=
  if 1 < field b 0 1 then (s, .done .badValue [])
  else if s.catalogue.openClip.isSome && !flagAt b 0 then (s, .done .clipOpen [])
  else (s.railOff, .done .ok [Rail.code .off])

/-- RAIL_OFF (R154). -/
def execRailOff (p : Port) (f : Frame) (s : State) : Out := s.doRequest .railOff railOff p f

end Sys2Proof.Machine
end

