-- ==== Sys2Proof/Machine/Supply.lean ====
section
/-! DEFINITION. The Measurement Sequencer and the Supply Monitor (chapter 8). -/

namespace Sys2Proof.Machine

/-! ### The round's values -/

/-- R141: the table a round at tick `now` writes; a value beyond its range is its range's nearer end. -/
def RawMeas.table (r : RawMeas) (now : Tick) : MeasTable :=
  { tick := now
    vin := (clampInt 0 20000 r.vin).toNat, iin := (clampInt 0 5000 r.iin).toNat
    vbat := (clampInt 0 5000 r.vbat).toNat, ibat := clampInt (-5000) 5000 r.ibat
    tbat := (clampInt 0 4095 r.tbat).toNat, vbkp := (clampInt 0 5000 r.vbkp).toNat }

/-- R140: a round completes at the ticks 512 + 1024k, once at each (log 28). -/
def State.roundDue (s : State) : Bool :=
  s.tick.toNat % 1024 == 512 && s.supply.table.map MeasTable.tick != some s.tick

/-- R144, R147: the span of the ride-through and of the debounce, longer while a shock episode is ACTIVE. -/
def State.dropoutSpan (s : State) : Nat := if s.motion.episode.isSome then 4096 else 2048

/-- R144, R147: a dropout timer in a round that finds its condition: started if it does not run, else its
span chosen again. -/
def State.dropoutTimer (s : State) (t : Option SpanTimer) : SpanTimer :=
  let start := (t.map SpanTimer.start).getD s.tick
  { start := start, due := later start s.dropoutSpan }

/-! ### Supply state changes -/

/-- R148, R151: the supply state returns to NORMAL. Out of SHUTDOWN the gate opens if the comparator is
HIGH (R132). -/
def State.supplyNormal (s : State) : State :=
  let gate := if s.supply.state = .shutdown ∧ s.store.comparator = .high then Gate.opened else s.store.gate
  ({ s with supply := { s.supply with state := .normal, pwrfail := .low, hold := none }
            store := { s.store with gate := gate } }).raise .supplyOk

/-- R147, R153: the supply state enters FINISHING; a RAMPING rail goes off. -/
def State.enterFinishing (s : State) : State :=
  let s := ({ s with supply := { s.supply with
      state := .finishing, pwrfail := .high, debounce := none
      hold := some (later s.tick s.supply.settings.hold) } }).raise .supplyLow
  match s.supply.rail with
  | .ramping _ => s.railGoesOff (some .wrongState)
  | _ => s

/-- R149, R150: the seal, the rail off, the link stopped, SHUTDOWN. -/
def State.shutDown (s : State) (cause : CutCause) : State :=
  let s := ((s.seal cause).railGoesOff (some .wrongState)).linkStop
  { s with supply := { s.supply with state := .shutdown, pwrfail := .low, hold := none, debounce := none } }

/-- R150: a hard cut. -/
def State.hardCut (s : State) : State :=
  let normal := s.supply.state = .normal
  let s := s.shutDown .hardCut
  if normal then s.raise .supplyLow else s

/-! ### The input state -/

/-- R142: the input state becomes `x`: INPUT_CHANGED, the input timers end, and a PRESENT input acts on the
supply state (R147, R148, R151). -/
def State.inputBecomes (s : State) (x : InputState) : State :=
  let s := ({ s with supply := { s.supply with input := x, present := none, ride := none } }).raise .inputChanged
  match x with
  | .absent => s
  | .present =>
    let s := { s with supply := { s.supply with debounce := none } }
    if s.supply.state = .normal then s else s.supplyNormal

/-- R142: the initial decision. -/
def State.decideInput (s : State) (m : MeasTable) : State :=
  let s := { s with supply := { s.supply with decided := true } }
  if 4400 ≤ m.vin then s.inputBecomes .present else s

/-- R143: a round while the input is ABSENT. -/
def State.roundAbsent (s : State) (m : MeasTable) : State :=
  let t := if 4400 ≤ m.vin then some (s.supply.present.getD (later s.tick 16384)) else none
  { s with supply := { s.supply with present := t } }

/-- R144: a round while the input is PRESENT. -/
def State.roundPresent (s : State) (m : MeasTable) : State :=
  if m.vin < 4200 then
    let t := s.dropoutTimer s.supply.ride
    if atOrAfter s.tick t.due then s.inputBecomes .absent
    else { s with supply := { s.supply with ride := some t } }
  else { s with supply := { s.supply with ride := none } }

/-- R150: the round is first applied to the input state (R142 to R144). -/
def State.applyInput (s : State) (m : MeasTable) : State :=
  if !s.supply.decided then s.decideInput m
  else
    match s.supply.input with
    | .absent => s.roundAbsent m
    | .present => s.roundPresent m

/-! ### The judgement of the supply state -/

/-- R147: a round in NORMAL that finds no hard cut; `first` says that it is the first after POR. -/
def State.judgeNormal (s : State) (m : MeasTable) (first : Bool) : State :=
  if s.supply.input = .absent ∧ m.vbat < s.supply.settings.vWarn then
    let t := s.dropoutTimer s.supply.debounce
    if first || atOrAfter s.tick t.due then s.enterFinishing
    else { s with supply := { s.supply with debounce := some t } }
  else { s with supply := { s.supply with debounce := none } }

/-- R147 to R151: a round judges the supply state, a hard cut first (R150). -/
def State.judge (s : State) (m : MeasTable) (first : Bool) : State :=
  if s.supply.state ≠ .shutdown ∧ s.supply.input = .absent ∧ m.vbat < s.supply.settings.vCut then s.hardCut
  else
    match s.supply.state with
    | .normal => s.judgeNormal m first
    | .finishing | .shutdown => if s.supply.settings.vStart ≤ m.vbat then s.supplyNormal else s

/-! ### The round -/

/-- The three pieces of work of a round whose order is open (R140). -/
inductive RoundWork where
  | supply | input | charge
  deriving DecidableEq, Repr

/-- The order an operand names. -/
def WorkOrder.list : WorkOrder → List RoundWork
  | .supplyInputCharge => [.supply, .input, .charge]
  | .supplyChargeInput => [.supply, .charge, .input]
  | .inputSupplyCharge => [.input, .supply, .charge]
  | .inputChargeSupply => [.input, .charge, .supply]
  | .chargeSupplyInput => [.charge, .supply, .input]
  | .chargeInputSupply => [.charge, .input, .supply]

/-- R183: the Charge Controller's round work and the Gauge's addition, in either order. -/
def State.chargeAndGauge (s : State) (m : MeasTable) (gaugeFirst : Bool) : State :=
  if gaugeFirst then ({ s with gauge := s.gauge.add m.ibat }).chargeRound m
  else
    let s := s.chargeRound m
    { s with gauge := s.gauge.add m.ibat }

/-- One piece of a round's work; `changed` says that the round changed the input state, `first` that it is
the first after POR. -/
def State.work (m : MeasTable) (first changed gaugeFirst : Bool) (s : State) : RoundWork → State
  | .supply => s.judge m first
  | .input => if changed then s.chargeInput else s
  | .charge => s.chargeAndGauge m gaugeFirst

/-- R140: a round completes with the values `r`, its work in the order `o` (log 11). -/
def State.round (s : State) (r : RawMeas) (o : RoundOrder) : State :=
  let m := RawMeas.table r s.tick
  let first := !s.supply.decided
  let before := s.supply.input
  let s := ({ s with supply := { s.supply with table := some m } }).applyInput m
  let changed := decide (s.supply.input ≠ before)
  (WorkOrder.list o.works).foldl (State.work m first changed o.gaugeFirst) s

/-- MEASUREMENT_ROUND (R140). -/
def execMeasurementRound (r : RawMeas) (o : RoundOrder) (s : State) : Out :=
  s.event State.roundDue fun s => s.round r o

/-! ### Expiries -/

/-- PRESENT_QUALIFICATION_EXPIRY (R143): the input becomes PRESENT. -/
def execPresentQualificationExpiry (s : State) : Out :=
  s.event (fun s => s.due s.supply.present) fun s => (s.inputBecomes .present).chargeInput

/-- RIDE_THROUGH_EXPIRY (R144): the input becomes ABSENT. -/
def execRideThroughExpiry (s : State) : Out :=
  s.event (fun s => s.due (s.supply.ride.map SpanTimer.due)) fun s => (s.inputBecomes .absent).chargeInput

/-- BATTERY_LOW_DEBOUNCE_EXPIRY (R147). -/
def execBatteryLowDebounceExpiry (s : State) : Out :=
  s.event (fun s => s.due (s.supply.debounce.map SpanTimer.due)) State.enterFinishing

/-- HOLD_EXPIRY (R149). -/
def execHoldExpiry (s : State) : Out :=
  s.event (fun s => s.due s.supply.hold) fun s => s.shutDown .holdExpired

/-! ### Requests -/

/-- SUPPLY_SET's own rule (R145). -/
def supplySet (_ : Port) (b : List Byte) (s : State) : State × Reply :=
  let x : SupplySettings :=
    { vWarn := clamp 3000 3600 (field b 0 2), vCut := clamp 2800 3300 (field b 2 2)
      vStart := clamp 3100 4200 (field b 4 2), hold := clamp 65536 2097152 (field b 6 4) }
  if x.vCut < x.vWarn ∧ x.vWarn < x.vStart then
    ({ s with supply := { s.supply with settings := x } }, .done .ok x.enc)
  else (s, .done .badValue [])

/-- SUPPLY_SET (R145). -/
def execSupplySet (p : Port) (f : Frame) (s : State) : Out := s.doRequest .supplySet supplySet p f

/-- SUPPLY_READ's own rule (R156). -/
def supplyRead (_ : Port) (_ : List Byte) (s : State) : State × Reply :=
  let x := s.supply
  let t := x.table
  (s, .done .ok (encOpt 2 (beBytes 2) (t.map MeasTable.vin) ++ encOpt 2 (beBytes 2) (t.map MeasTable.iin)
    ++ encOpt 2 (beBytes 2) (t.map MeasTable.vbat) ++ encOpt 2 (beInt 2) (t.map MeasTable.ibat)
    ++ encOpt 2 (beBytes 2) (t.map MeasTable.tbat) ++ encOpt 2 (beBytes 2) (t.map MeasTable.vbkp)
    ++ encOpt 6 encTick (t.map MeasTable.tick)
    ++ [x.input.code] ++ encBool x.present.isSome ++ encBool x.ride.isSome ++ [x.state.code]
    ++ encOpt 6 encTick x.hold ++ encBool x.debounce.isSome ++ encLevel x.pwrfail ++ [x.rail.code]
    ++ encLevel s.link.rail ++ x.settings.enc))

/-- SUPPLY_READ (R156). -/
def execSupplyRead (p : Port) (f : Frame) (s : State) : Out := s.doRequest .supplyRead supplyRead p f

end Sys2Proof.Machine
end

