-- ==== Sys2Proof/Machine/Wheel.lean ====
section
/-! DEFINITION. The WHEEL qualifier and the Wheel Meter (sections 1.3 and 1.5). -/

namespace Sys2Proof.Machine

/-- R12: no pulses for this many ticks (2^21) stop the meter. -/
def stopSpan : Nat := 2097152

/-- R13: the speed band from the period and the thresholds. -/
def WheelMeter.chooseBand (w : WheelMeter) : Fin 4 :=
  match w.period with
  | none => 0
  | some p => if w.w1 ≤ p then 0 else if w.w2 ≤ p then 1 else if w.w3 ≤ p then 2 else 3

/-- R13: choose the band again. -/
def WheelMeter.reband (w : WheelMeter) : WheelMeter := { w with band := w.chooseBand }

/-- R11: the Wheel Meter takes a WHEEL capture with tick `c`. -/
def WheelMeter.pulse (w : WheelMeter) (c : Tick) : WheelMeter :=
  let period :=
    match w.prev with
    | some p => if dist c p ≤ stopSpan then some (max 1 (dist c p)) else none
    | none => none
  { w with prev := some c, period := period, stop := some (later c stopSpan) }.reband

/-- R8: the qualification time in ticks. -/
def WheelMeter.qualTime (w : WheelMeter) : Nat := w.q * 64

/-- R8: the pending change completes. The qualified level takes its level; a rise produces a WHEEL capture
stamped with the change's start tick, which the Wheel Meter takes at once (R7, R11). -/
def State.qualify (s : State) (c : PendingChange) : State :=
  let s := { s with qualifier := { s.qualifier with qualified := c.level, change := none } }
  match c.level with
  | .low => s
  | .high =>
    let s := (s.capture .wheel c.start).emptied .wheel
    { s with wheel := s.wheel.pulse c.start }

/-- R8: the raw input has changed to `level`. A return to the qualified level discards the pending change;
a departure records one, which with Q = 0 completes at the change itself. -/
def State.wheelRaw (s : State) (level : Level) : State :=
  let s := { s with qualifier := { s.qualifier with raw := level } }
  if level = s.qualifier.qualified then
    { s with qualifier := { s.qualifier with change := none } }
  else
    let c := s.qualifier.change.getD { level := level, start := s.tick }
    if s.wheel.q = 0 then s.qualify c
    else { s with qualifier := { s.qualifier with change := some c } }

/-- WHEEL_RAW_CHANGE (R8). -/
def execWheelRawChange (level : Level) (s : State) : Out :=
  s.event (fun s => level != s.qualifier.raw) fun s => s.wheelRaw level

/-- WHEEL_QUALIFICATION (R8): the raw input has held the pending level until Q × 64 ticks after the start
tick. -/
def execWheelQualification (s : State) : Out :=
  s.whenPowered fun s =>
    match s.qualifier.change with
    | some c => if s.tick = later c.start s.wheel.qualTime then s.qualify c else s
    | none => s

/-- STOP_TIMER_EXPIRY (R12). -/
def execStopTimerExpiry (s : State) : Out :=
  s.event (fun s => s.due s.wheel.stop) fun s =>
    { s with wheel := { s.wheel with prev := none, period := none, stop := none, band := 0 } }

/-- R14: a pending change whose moment has already passed under the new Q completes within WHEEL_SET
(log 18). -/
def State.requalify (s : State) : State :=
  match s.qualifier.change with
  | some c => if s.wheel.qualTime < dist s.tick c.start then s.qualify c else s
  | none => s

/-- WHEEL_SET's own rule (R14). -/
def wheelSet (_ : Port) (b : List Byte) (s : State) : State × Reply :=
  let q := clamp 0 255 (field b 0 1)
  let w1 := clamp 1 stopSpan (field b 1 4)
  let w2 := clamp 1 stopSpan (field b 5 4)
  let w3 := clamp 1 stopSpan (field b 9 4)
  if w2 < w1 ∧ w3 < w2 then
    let w := { s.wheel with q := q, w1 := w1, w2 := w2, w3 := w3 }.reband
    ({ s with wheel := w }.requalify, .done .ok w.encSettings)
  else (s, .done .badValue [])

/-- WHEEL_SET (R14). -/
def execWheelSet (p : Port) (f : Frame) (s : State) : Out := s.doRequest .wheelSet wheelSet p f

/-- WHEEL_READ's own rule (R15). -/
def wheelRead (_ : Port) (_ : List Byte) (s : State) : State × Reply :=
  (s, .done .ok (encOpt 4 (beBytes 4) s.wheel.period ++ beBytes 1 s.wheel.band.val ++ s.wheel.encSettings))

/-- WHEEL_READ (R15). -/
def execWheelRead (p : Port) (f : Frame) (s : State) : Out := s.doRequest .wheelRead wheelRead p f

/-- R15, R8: what SOFT_RESET leaves of the Wheel Meter and of the qualifier. -/
def State.wheelSoftReset (s : State) : State :=
  { s with wheel := WheelMeter.atReset, qualifier := Qualifier.atReset s.qualifier.raw }

end Sys2Proof.Machine
end

