-- ==== Sys2Proof/Machine/Reset.lean ====
section
/-! DEFINITION. SOFT_RESET (section 10.6), which reaches into every block. -/

namespace Sys2Proof.Machine

/-- R203, R204: the ports at SOFT_RESET: Port A's slot is abandoned, and both masks become all enabled. -/
def State.portsSoftReset (s : State) : State :=
  let s := s.abandon .a
  { s with portA := s.portA.withMask 0xFFFF, portB := s.portB.withMask 0xFFFF }

/-- R7, R15, R16, R38, R59, R81: the motion and frame blocks at SOFT_RESET. -/
def State.motionSoftReset (s : State) : State :=
  { s.wheelSoftReset with
    channels := Channels.none
    ftrig := Generator.stopped
    link := s.link.softReset
    motion := Motion.atReset s.motion.settings s.motion.limit
    frames := Frames.atReset s.frames.lens }

/-- R203: what an accepted SOFT_RESET does: the rail off (R157), the ports, the motion and frame blocks, the
charge cycle (R186). -/
def State.softReset (s : State) : State :=
  ((s.railGoesOff none).portsSoftReset.motionSoftReset).chargeSoftReset

/-- SOFT_RESET's own rule (R203). -/
def softReset (_ : Port) (_ : List Byte) (s : State) : State × Reply :=
  if s.catalogue.openClip.isSome then (s, .done .clipOpen []) else (s.softReset, .done .ok [])

/-- SOFT_RESET (R203). -/
def execSoftReset (p : Port) (f : Frame) (s : State) : Out := s.doRequest .softReset softReset p f

end Sys2Proof.Machine
end

