-- ==== Sys2Proof/Machine/Time.lean ====
section
/-! DEFINITION. The tick counter, time stamps and time pairing (sections 1.1, 1.2, 1.4). -/

namespace Sys2Proof.Machine

/-- TICK_COUNTER_ADVANCE (R1): the counter advances by one, from 2^48 − 1 to 0. -/
def execTickCounterAdvance (s : State) : Out :=
  s.whenPowered fun s => { s with tick := s.tick + 1 }

/-- TIME_READ's own rule (R5). -/
def timeRead (_ : Port) (_ : List Byte) (s : State) : State × Reply :=
  (s, .done .ok (encStamp s.stamp))

/-- TIME_READ (R5). -/
def execTimeRead (p : Port) (f : Frame) (s : State) : Out := s.doRequest .timeRead timeRead p f

/-- TIME_PAIR's own rule (R9): the port's channel is armed, its timeout of 2^20 ticks started, and the
request stays in flight. -/
def timePair (p : Port) (_ : List Byte) (s : State) : State × Reply :=
  (s.setPair p { armed := some (s.port p).takings, timeout := some (later s.tick (2 ^ 20)) }, .inFlight)

/-- TIME_PAIR (R9). -/
def execTimePair (p : Port) (f : Frame) (s : State) : Out := s.doRequest .timePair timePair p f

/-- The SYNC channel of a port (section 1.3). -/
def syncChannel : Port → Channel
  | .a => .synca
  | .b => .syncb

/-- The pairing of a port ends: the channel is disarmed, the timeout cancelled, and the TIME_PAIR that
armed it completes (R9, R10). -/
def State.endPairing (s : State) (p : Port) (st : Status) (body : List Byte) : State :=
  match (s.pair p).armed with
  | some n => (s.setPair p Pairing.disarmed).complete { port := p, taking := n } st body
  | none => s

/-- SYNC_CAPTURE (R9): the consumer takes the capture at once; armed, the TIME_PAIR completes OK with the
epoch and the captured tick, else the capture is discarded. -/
def execSyncCapture (p : Port) (s : State) : Out :=
  s.whenPowered fun s =>
    let s := (s.capture (syncChannel p) s.tick).emptied (syncChannel p)
    s.endPairing p .ok (encStamp s.stamp)

/-- PAIRING_TIMEOUT (R10): the TIME_PAIR completes TIMEOUT with an empty body. -/
def execPairingTimeout (p : Port) (s : State) : Out :=
  s.event (fun s => s.due (s.pair p).timeout) fun s => s.endPairing p .timeout []

end Sys2Proof.Machine
end

