-- ==== Sys2Proof/Machine/Dispatch.lean ====
section
/-! DEFINITION. One arm a command: the meaning each command has. -/

namespace Sys2Proof.Machine

def exec (i : Instr) (s : State) : Host.Outcome State Fault Refusal :=
  match i with
  | .por vsys wheel => Sys2Proof.Machine.execPor vsys wheel s
  | .vsysLoss => Sys2Proof.Machine.execVsysLoss s
  | .retentionLoss => Sys2Proof.Machine.execRetentionLoss s
  | .softReset p f => Sys2Proof.Machine.execSoftReset p f s
  | .timeRead p f => Sys2Proof.Machine.execTimeRead p f s
  | .timePair p f => Sys2Proof.Machine.execTimePair p f s
  | .syncCapture p => Sys2Proof.Machine.execSyncCapture p s
  | .pairingTimeout p => Sys2Proof.Machine.execPairingTimeout p s
  | .wheelRawChange level => Sys2Proof.Machine.execWheelRawChange level s
  | .wheelQualification => Sys2Proof.Machine.execWheelQualification s
  | .stopTimerExpiry => Sys2Proof.Machine.execStopTimerExpiry s
  | .wheelSet p f => Sys2Proof.Machine.execWheelSet p f s
  | .wheelRead p f => Sys2Proof.Machine.execWheelRead p f s
  | .generatorPeriodStart g => Sys2Proof.Machine.execGeneratorPeriodStart g s
  | .generatorWidthEnd g => Sys2Proof.Machine.execGeneratorWidthEnd g s
  | .imuLinkSet p f => Sys2Proof.Machine.execImuLinkSet p f s
  | .imuBankWrite p f => Sys2Proof.Machine.execImuBankWrite p f s
  | .imuBankRead p f => Sys2Proof.Machine.execImuBankRead p f s
  | .imuStart p f => Sys2Proof.Machine.execImuStart p f s
  | .imuStop p f => Sys2Proof.Machine.execImuStop p f s
  | .imuAccess p f => Sys2Proof.Machine.execImuAccess p f s
  | .imuStatus p f => Sys2Proof.Machine.execImuStatus p f s
  | .startupExpiry => Sys2Proof.Machine.execStartupExpiry s
  | .identityReadComplete value => Sys2Proof.Machine.execIdentityReadComplete value s
  | .bankWriteComplete => Sys2Proof.Machine.execBankWriteComplete s
  | .verifyReadComplete value => Sys2Proof.Machine.execVerifyReadComplete value s
  | .recoveryExpiry => Sys2Proof.Machine.execRecoveryExpiry s
  | .drdyCapture => Sys2Proof.Machine.execDrdyCapture s
  | .sampleBurstComplete bytes => Sys2Proof.Machine.execSampleBurstComplete bytes s
  | .stallExpiry => Sys2Proof.Machine.execStallExpiry s
  | .passThroughComplete value => Sys2Proof.Machine.execPassThroughComplete value s
  | .watchTimerExpiry => Sys2Proof.Machine.execWatchTimerExpiry s
  | .biasSet p f => Sys2Proof.Machine.execBiasSet p f s
  | .motionSet p f => Sys2Proof.Machine.execMotionSet p f s
  | .motionRead p f => Sys2Proof.Machine.execMotionRead p f s
  | .lensSet p f => Sys2Proof.Machine.execLensSet p f s
  | .frameStart p f => Sys2Proof.Machine.execFrameStart p f s
  | .frameStop p f => Sys2Proof.Machine.execFrameStop p f s
  | .windowExpiry => Sys2Proof.Machine.execWindowExpiry s
  | .fstCapture => Sys2Proof.Machine.execFstCapture s
  | .fenCapture => Sys2Proof.Machine.execFenCapture s
  | .bandDeadlineExpiry frame band => Sys2Proof.Machine.execBandDeadlineExpiry frame band s
  | .corrRead p f => Sys2Proof.Machine.execCorrRead p f s
  | .frameStatus p f => Sys2Proof.Machine.execFrameStatus p f s
  | .cardSet p f => Sys2Proof.Machine.execCardSet p f s
  | .formatCatalogue p f => Sys2Proof.Machine.execFormatCatalogue p f s
  | .clipOpen p f => Sys2Proof.Machine.execClipOpen p f s
  | .clipReserve p f => Sys2Proof.Machine.execClipReserve p f s
  | .clipProgress p f => Sys2Proof.Machine.execClipProgress p f s
  | .clipClose p f => Sys2Proof.Machine.execClipClose p f s
  | .clipDeleted p f => Sys2Proof.Machine.execClipDeleted p f s
  | .clipProtect p f => Sys2Proof.Machine.execClipProtect p f s
  | .clipUnprotect p f => Sys2Proof.Machine.execClipUnprotect p f s
  | .clipForget p f => Sys2Proof.Machine.execClipForget p f s
  | .clipRead p f => Sys2Proof.Machine.execClipRead p f s
  | .clipList p f => Sys2Proof.Machine.execClipList p f s
  | .cardRead p f => Sys2Proof.Machine.execCardRead p f s
  | .markUser p f => Sys2Proof.Machine.execMarkUser p f s
  | .markRead p f => Sys2Proof.Machine.execMarkRead p f s
  | .comparatorFall => Sys2Proof.Machine.execComparatorFall s
  | .comparatorRise => Sys2Proof.Machine.execComparatorRise s
  | .recoveryRead p f => Sys2Proof.Machine.execRecoveryRead p f s
  | .recoveryClear p f => Sys2Proof.Machine.execRecoveryClear p f s
  | .measurementRound raw order => Sys2Proof.Machine.execMeasurementRound raw order s
  | .presentQualificationExpiry => Sys2Proof.Machine.execPresentQualificationExpiry s
  | .rideThroughExpiry => Sys2Proof.Machine.execRideThroughExpiry s
  | .batteryLowDebounceExpiry => Sys2Proof.Machine.execBatteryLowDebounceExpiry s
  | .holdExpiry => Sys2Proof.Machine.execHoldExpiry s
  | .supplySet p f => Sys2Proof.Machine.execSupplySet p f s
  | .railOn p f pg => Sys2Proof.Machine.execRailOn p f pg s
  | .mrailPgRise => Sys2Proof.Machine.execMrailPgRise s
  | .rampTimeout => Sys2Proof.Machine.execRampTimeout s
  | .railOff p f => Sys2Proof.Machine.execRailOff p f s
  | .supplyRead p f => Sys2Proof.Machine.execSupplyRead p f s
  | .chargeSet p f => Sys2Proof.Machine.execChargeSet p f s
  | .chargeEnable p f => Sys2Proof.Machine.execChargeEnable p f s
  | .powerTableSet p f => Sys2Proof.Machine.execPowerTableSet p f s
  | .powerClass p f => Sys2Proof.Machine.execPowerClass p f s
  | .qualificationExpiry => Sys2Proof.Machine.execQualificationExpiry s
  | .faultClear p f => Sys2Proof.Machine.execFaultClear p f s
  | .chargeRead p f => Sys2Proof.Machine.execChargeRead p f s
  | .gaugeSet p f => Sys2Proof.Machine.execGaugeSet p f s
  | .gaugeRead p f => Sys2Proof.Machine.execGaugeRead p f s
  | .fetch p n => Sys2Proof.Machine.execFetch p n s
  | .busyRefusal p kind f => Sys2Proof.Machine.execBusyRefusal p kind f s
  | .unknownKind p kind f => Sys2Proof.Machine.execUnknownKind p kind f s
  | .noticeRead p f => Sys2Proof.Machine.execNoticeRead p f s
  | .noticeMask p f => Sys2Proof.Machine.execNoticeMask p f s
  | .policySet p f => Sys2Proof.Machine.execPolicySet p f s
  | .policyLock p f => Sys2Proof.Machine.execPolicyLock p f s
  | .identify p f => Sys2Proof.Machine.execIdentify p f s
  | .tickCounterAdvance => Sys2Proof.Machine.execTickCounterAdvance s

end Sys2Proof.Machine
end

