-- ==== Sys2Proof/Machine/Step.lean ====
section
/-! DEFINITION. One step: the command at the front of the queue, or nothing. -/

namespace Sys2Proof.Machine

/-- The step of the block: the command at the front of the queue is taken from it and executed on the rest;
on an empty queue the block idles (DESIGN CHOICE, log 4; unsafe). -/
def step (s : State) : Host.Outcome State Fault Refusal :=
  match s.pending with
  | [] => .next s
  | i :: rest => exec i { s with pending := rest }

/-- The table gives its rows no bits, so no word spells a command and nothing is put in the queue. -/
def State.withFetchWord (s : State) (nbits w : Nat) : State :=
  match decodeTableWord nbits w with
  | some i => { s with pending := i :: s.pending }
  | none => s

end Sys2Proof.Machine
end

