-- ==== Sys2Proof/Safety.lean ====
section
/-! DEFINITION. What every state of a run has: the invariants of the blocks, one a block, each kept by every
step and true of State.reset; and the words in which statements speak of requests. -/

namespace Sys2Proof

/-- The kind, port and frame of a command that is a request of section 11.2. -/
def Instr.asRequest : Instr → Option (Kind × Port × Frame)
  | .softReset p f => some (.softReset, p, f)
  | .timeRead p f => some (.timeRead, p, f)
  | .timePair p f => some (.timePair, p, f)
  | .wheelSet p f => some (.wheelSet, p, f)
  | .wheelRead p f => some (.wheelRead, p, f)
  | .imuLinkSet p f => some (.imuLinkSet, p, f)
  | .imuBankWrite p f => some (.imuBankWrite, p, f)
  | .imuBankRead p f => some (.imuBankRead, p, f)
  | .imuStart p f => some (.imuStart, p, f)
  | .imuStop p f => some (.imuStop, p, f)
  | .imuAccess p f => some (.imuAccess, p, f)
  | .imuStatus p f => some (.imuStatus, p, f)
  | .biasSet p f => some (.biasSet, p, f)
  | .motionSet p f => some (.motionSet, p, f)
  | .motionRead p f => some (.motionRead, p, f)
  | .lensSet p f => some (.lensSet, p, f)
  | .frameStart p f => some (.frameStart, p, f)
  | .frameStop p f => some (.frameStop, p, f)
  | .corrRead p f => some (.corrRead, p, f)
  | .frameStatus p f => some (.frameStatus, p, f)
  | .cardSet p f => some (.cardSet, p, f)
  | .formatCatalogue p f => some (.formatCatalogue, p, f)
  | .clipOpen p f => some (.clipOpen, p, f)
  | .clipReserve p f => some (.clipReserve, p, f)
  | .clipProgress p f => some (.clipProgress, p, f)
  | .clipClose p f => some (.clipClose, p, f)
  | .clipDeleted p f => some (.clipDeleted, p, f)
  | .clipProtect p f => some (.clipProtect, p, f)
  | .clipUnprotect p f => some (.clipUnprotect, p, f)
  | .clipForget p f => some (.clipForget, p, f)
  | .clipRead p f => some (.clipRead, p, f)
  | .clipList p f => some (.clipList, p, f)
  | .cardRead p f => some (.cardRead, p, f)
  | .markUser p f => some (.markUser, p, f)
  | .markRead p f => some (.markRead, p, f)
  | .recoveryRead p f => some (.recoveryRead, p, f)
  | .recoveryClear p f => some (.recoveryClear, p, f)
  | .supplySet p f => some (.supplySet, p, f)
  | .railOn p f _ => some (.railOn, p, f)
  | .railOff p f => some (.railOff, p, f)
  | .supplyRead p f => some (.supplyRead, p, f)
  | .chargeSet p f => some (.chargeSet, p, f)
  | .chargeEnable p f => some (.chargeEnable, p, f)
  | .powerTableSet p f => some (.powerTableSet, p, f)
  | .powerClass p f => some (.powerClass, p, f)
  | .faultClear p f => some (.faultClear, p, f)
  | .chargeRead p f => some (.chargeRead, p, f)
  | .gaugeSet p f => some (.gaugeSet, p, f)
  | .gaugeRead p f => some (.gaugeRead, p, f)
  | .noticeRead p f => some (.noticeRead, p, f)
  | .noticeMask p f => some (.noticeMask, p, f)
  | .policySet p f => some (.policySet, p, f)
  | .policyLock p f => some (.policyLock, p, f)
  | .identify p f => some (.identify, p, f)
  | _ => none

end Sys2Proof

namespace Sys2Proof.Machine

/-! ### Requests -/

/-- The conditions under which a request of kind `k` reaches its own rule: VSYS present (R124), the kind byte
not met by a WORKING slot (R189), the length right and the port allowed (R194, steps 2 and 3). -/
@[reducible] def State.Admits (s : State) (p : Port) (k : Kind) (f : Frame) : Prop :=
  s.store.vsys = true ∧ (s.port p).met f.began ≠ .working ∧ s.precheck p k f = none

/-- The state after a request on port `p` has been taken and answered at once (R190): the slot ANSWERED,
one more taking, the bytes sent in the transfer. -/
def State.replied (s : State) (p : Port) (f : Frame) (a : Answer) : State :=
  s.setPort p { s.port p with
    slot := .answered a, takings := (s.port p).takings + 1, earlier := Earlier.none
    sent := requestSends p ((s.port p).met f.began) f, busy := false }

/-- The state after a request on port `p` has been taken and stays in flight (R190). -/
def State.flying (s : State) (p : Port) (k : Kind) (f : Frame) : State :=
  s.setPort p { s.port p with
    slot := .working (Kind.code k) ((s.port p).takings + 1), takings := (s.port p).takings + 1
    earlier := Earlier.none, sent := requestSends p ((s.port p).met f.began) f, busy := false }

/-- An answer to a request of kind `k`. -/
def reply (st : Status) (k : Kind) (body : List Byte) : Answer :=
  { status := st, kind := Kind.code k, body := body }

/-- The state with every clip record replaced by what `f` makes of it. -/
@[reducible] def State.mapClips (s : State) (f : Clip → Clip) : State :=
  { s with catalogue := { s.catalogue with clips := s.catalogue.clips.map f } }

/-! ### Invariants -/

/-- R199, R200: ATTN follows set and mask, and the set holds only kinds routed to the port. -/
@[reducible] def PortState.LinesOk (x : PortState) (p : Port) : Prop :=
  x.attn = attnLevel x.notices x.mask ∧ x.notices &&& ~~~(routedSet p) = 0

/-- R199, R200, R146: the notice lines and PWRFAIL. -/
@[reducible] def State.LinesOk (s : State) : Prop :=
  s.portA.LinesOk .a ∧ s.portB.LinesOk .b ∧ (s.supply.pwrfail = .high ↔ s.supply.state = .finishing)

/-- The bounds of the collections and counts: R46, R48, R50, R51, R55, R61, R68, R75, R32, R172, R173. -/
@[reducible] def State.Bounded (s : State) : Prop :=
  s.motion.history.length ≤ 64 ∧ s.frames.bands.length ≤ 64 ∧ s.frames.queue.length ≤ 64
  ∧ s.frames.params.bands ≤ 16 ∧ s.motion.stillCount < 4096
  ∧ (∀ e ∈ s.motion.episode, e.quiet < 64) ∧ (∀ w ∈ s.motion.watch, w.run < 2048)
  ∧ (s.motion.episode.isSome → s.motion.watch = none) ∧ s.link.gaps ≤ 65535 ∧ s.charge.term ≤ 64
  ∧ (s.charge.state = .cv → s.charge.term < 64) ∧ s.charge.safety ≤ 58982400

/-- R85 to R87, R112: the fields of one clip record agree with its state. -/
@[reducible] def Clip.Ok (x : Clip) : Prop :=
  1 ≤ x.number ∧ (x.state = .opened ↔ x.ending = none) ∧ (x.state = .cut ↔ x.cutCause.isSome)
  ∧ (x.frameCount.isSome → x.state = .closed ∨ x.state = .recycling)
  ∧ (0 < x.reserved → x.state = .opened) ∧ (x.state = .recycling → x.protection = .none)
  ∧ x.staleBands ≤ 65535 ∧ x.pinnedBands ≤ 65535 ∧ x.marks.length ≤ 16
  ∧ (∀ m ∈ x.marks, m.kind = .user ↔ m.peak = none)

/-- R85, R86, R89, R95, R113: the catalogue and the pool. -/
@[reducible] def Catalogue.Ok (c : Catalogue) : Prop :=
  c.clips.length ≤ 128 ∧ c.clips.Pairwise (fun x y => x.number < y.number)
  ∧ (∀ x ∈ c.clips, x.Ok ∧ x.number < c.nextClip) ∧ 1 ≤ c.nextClip ∧ c.nextClip ≤ 4294967295
  ∧ (c.clips.filter fun x => x.state = .opened).length ≤ 1
  ∧ (∀ u ∈ c.reservation, 1 ≤ u ∧ u ≤ 65535 ∧ c.openClip.isSome)
  ∧ c.inUse ≤ c.card.capacity ∧ c.card.capacity ≤ 16777216 ∧ c.poolSize ≤ 256

/-- R44: each accumulator is within its limit, and the limits are those of the lens settings in force. -/
@[reducible] def State.AnglesOk (s : State) : Prop :=
  s.motion.limit = s.frames.lens.limits
  ∧ s.motion.acc.yaw.natAbs ≤ s.motion.limit.yaw ∧ s.motion.acc.pitch.natAbs ≤ s.motion.limit.pitch
  ∧ s.motion.acc.roll.natAbs ≤ s.motion.limit.roll

/-- `x` is in `lo`…`hi`. -/
@[reducible] def inRange (lo hi x : Nat) : Prop := lo ≤ x ∧ x ≤ hi

/-- R13, R14: the wheel settings. -/
@[reducible] def WheelMeter.SettingsOk (w : WheelMeter) : Prop :=
  w.q ≤ 255 ∧ w.w1 ≤ stopSpan ∧ w.w2 < w.w1 ∧ w.w3 < w.w2 ∧ 1 ≤ w.w3 ∧ w.band = w.chooseBand

/-- R20: the link settings. -/
@[reducible] def LinkSettings.Ok (x : LinkSettings) : Prop :=
  x.idAddr.toNat ≤ 127 ∧ x.sampleAddr.toNat ≤ 116 ∧ inRange 64 16384 x.pImu

/-- R40, R57: the motion settings. -/
@[reducible] def MotionSettings.Ok (x : MotionSettings) : Prop :=
  inRange 1 4095 x.gain ∧ (∀ l ∈ x.leak.toList, inRange 4 16 l) ∧ x.still ≤ 255 ∧ inRange 1 32767 x.shock
  ∧ inRange x.shock 32767 x.crash
  ∧ x.map.yaw.src ≠ x.map.pitch.src ∧ x.map.yaw.src ≠ x.map.roll.src ∧ x.map.pitch.src ≠ x.map.roll.src

/-- R60: the lens settings. -/
@[reducible] def Lens.Ok (x : Lens) : Prop :=
  inRange 1 4095 x.fx ∧ inRange 1 4095 x.fy ∧ x.mx ≤ 8191 ∧ x.my ≤ 8191 ∧ x.mroll ≤ 2560

/-- R145: the supply settings. -/
@[reducible] def SupplySettings.Ok (x : SupplySettings) : Prop :=
  inRange 3000 3600 x.vWarn ∧ inRange 2800 3300 x.vCut ∧ inRange 3100 4200 x.vStart
  ∧ inRange 65536 2097152 x.hold ∧ x.vCut < x.vWarn ∧ x.vWarn < x.vStart

/-- R159: the charge settings. -/
@[reducible] def ChargeSettings.Ok (x : ChargeSettings) : Prop :=
  inRange 100 3000 x.iLim ∧ inRange 64 3000 x.iCc ∧ inRange 32 512 x.iPre ∧ inRange 32 512 x.iTerm
  ∧ inRange 4100 4400 x.vCv ∧ x.vCv % 10 = 0 ∧ inRange 1 16 x.safety ∧ x.rBase ≤ 500

/-- Every setting the masters tune is in the range its rule gives (R14, R20, R57, R60, R145, R159, R161,
R49). -/
@[reducible] def State.SettingsOk (s : State) : Prop :=
  s.wheel.SettingsOk ∧ s.link.settings.Ok ∧ s.motion.settings.Ok ∧ s.frames.lens.Ok ∧ s.supply.settings.Ok
  ∧ s.charge.settings.Ok ∧ (∀ i ∈ s.charge.table.toList, i ≤ 3000)
  ∧ (∀ b ∈ s.motion.bias.toList, -2048 ≤ b ∧ b ≤ 2047)

/-- R166, R177 to R180: the Charge Controller and the ISET generator it drives. -/
@[reducible] def State.ChargeOk (s : State) : Prop :=
  (s.charge.state.charging = false →
    s.charge.target = 0 ∧ s.charge.ceiling = 0 ∧ s.charge.trim = 0 ∧ s.charge.cv = 0)
  ∧ s.charge.target ≤ zoneCap s.charge.settings.iCc s.charge.zone
  ∧ s.charge.ceiling ≤ zoneCap s.charge.settings.iCc s.charge.zone
  ∧ -3000 ≤ s.charge.trim ∧ s.charge.trim ≤ 0 ∧ -3000 ≤ s.charge.cv ∧ s.charge.cv ≤ 0
  ∧ (s.iset.running = true ↔ 0 < s.charge.target) ∧ s.charge.isetWidth = s.charge.target / 12
  ∧ (s.charge.qual.isSome ↔ s.charge.state = .qualify)
  ∧ (s.charge.state = .paused → s.charge.resume.isSome)
  ∧ (∀ r ∈ s.charge.resume, r.charging = true)

/-- R182: the gauge accumulator stays within 0 and the full charge. -/
@[reducible] def Gauge.Ok (g : Gauge) : Prop := g.acc ≤ g.full ∧ inRange 100 10000 g.capacity

/-- Which transfers the bus can carry in a state of the link (R26, R27, R34). -/
def LinkState.carries : LinkState → Bus → Bool
  | _, .free => true
  | .configuring, .identityRead | .configuring, .bankWrite _ | .configuring, .verifyRead _ => true
  | .running, .sampleBurst _ _ | .running, .passThrough _ => true
  | _, _ => false

/-- R19, R27, R30, R34: the link's timers, bus, queue and held capture in each of its states. -/
@[reducible] def State.LinkOk (s : State) : Prop :=
  (s.link.startup.isSome ↔ s.link.state = .powering) ∧ (s.link.recovery.isSome ↔ s.link.state = .recovering)
  ∧ (s.link.stall.isSome ↔ s.link.state = .running) ∧ s.link.state.carries s.link.bus = true
  ∧ (s.link.state = .configuring → s.link.bus ≠ .free)
  ∧ (s.link.bus = .free → s.link.queue = [] ∧ s.channels.drdy = none)
  ∧ (s.link.state ≠ .running → s.link.queue = [] ∧ s.channels.drdy = none)
  ∧ s.link.attempts ≤ 3 ∧ (s.link.state = .failed → s.link.attempts = 3)

/-- R61 to R63: the Frame Tracker and the FTRIG generator; no frame is current in IDLE (log 20). -/
@[reducible] def State.FramesOk (s : State) : Prop :=
  (s.ftrig.running = true ↔ s.frames.state ≠ .idle) ∧ (s.frames.cur.isSome ↔ s.frames.state ≠ .idle)
  ∧ (s.frames.state = .idle → s.frames.bands = []) ∧ s.ftrig.staged = none
  ∧ (s.frames.state ≠ .idle → s.frames.opened = true ∧ s.ftrig.period = s.frames.params.period)

/-- Whether the rail is RAMPING. -/
def Rail.isRamping : Rail → Bool
  | .ramping _ => true
  | _ => false

/-- The takings of the RAIL_ON of port `p` that a ramp holds. -/
def Rail.owedTo (p : Port) : Rail → List Nat
  | .ramping t => if t.port = p then [t.taking] else []
  | _ => []

/-- The ticket of a port's WORKING slot (R191). -/
def State.working (s : State) (p : Port) : Option Nat :=
  match (s.port p).slot with
  | .working _ n => some n
  | _ => none

/-- The takings of port `p` that a part of the machine will complete: the armed pairing (R9), the queued
IMU_ACCESSes (R34), the RAIL_ON of a ramp (R152). -/
def State.owed (s : State) (p : Port) : List Nat :=
  (s.pair p).armed.toList
  ++ ((s.link.queue.filter fun a => a.ticket.port = p).map fun a => a.ticket.taking)
  ++ s.supply.rail.owedTo p

/-- The IMU_ACCESS whose transfer is on the bus (R34). -/
def Bus.access : Bus → Option Access
  | .passThrough a => some a
  | _ => none

/-- R189 to R191: a port's WORKING slot is owed exactly one completion, its own; a slot that is not WORKING is
owed none; a WORKING slot is the port's latest taking, with no change since; a pairing's timeout runs while it
is armed. -/
@[reducible] def State.PortOwners (s : State) (p : Port) : Prop :=
  s.owed p = (s.working p).toList ∧ ((s.pair p).timeout.isSome ↔ (s.pair p).armed.isSome)
  ∧ ∀ n ∈ s.working p, n = (s.port p).takings ∧ (s.port p).earlier = Earlier.none

/-- R190, R191, R36, R152: the requests in flight of both ports, the ramp timeout, and the transfer on the
bus: an IMU_ACCESS still in flight there stands in the queue. -/
@[reducible] def State.OwnersOk (s : State) : Prop :=
  s.PortOwners .a ∧ s.PortOwners .b ∧ (s.supply.ramp.isSome ↔ s.supply.rail.isRamping = true)
  ∧ ∀ a ∈ s.link.bus.access,
      a.ticket.taking ≤ (s.port a.ticket.port).takings ∧ (s.inFlight a.ticket = true → a ∈ s.link.queue)

/-- R125, R132, R142 to R153, R167: the supply, its timers, the gate, and charging only from an input. -/
@[reducible] def State.SupplyOk (s : State) : Prop :=
  (s.supply.hold.isSome ↔ s.supply.state = .finishing)
  ∧ (s.supply.debounce.isSome → s.supply.state = .normal ∧ s.supply.input = .absent)
  ∧ (s.supply.present.isSome → s.supply.input = .absent) ∧ (s.supply.ride.isSome → s.supply.input = .present)
  ∧ (s.supply.input = .present → s.supply.state = .normal)
  ∧ (s.supply.rail.isRamping = true → s.supply.state = .normal) ∧ (s.supply.state = .shutdown → s.supply.rail = .off)
  ∧ (s.supply.state = .shutdown → s.store.gate = .closed)
  ∧ (s.store.comparator = .low → s.store.gate = .closed) ∧ (s.store.vsys = true → s.store.latch = true)
  ∧ (s.supply.input = .absent → s.charge.state = .off) ∧ (s.charge.qual.isSome → s.charge.state = .qualify)

end Sys2Proof.Machine
end

