-- ==== Sys2Proof/Certificates/Slice0/Obligations.lean ====
section
/-! DEFINITION. The statements for the provers, in the order of OBLIGATIONS.json. -/

open Sys2Proof Sys2Proof.Machine

/-! ### The block and its queue -/

/-- A step takes the command at the front of the queue and executes it on the rest; on an empty queue the block
idles (the model's choice, log 4). -/
def Obligations.QueueIsServedInOrder : Prop :=
  (∀ (c : Instr) (s : State) (rest : List Instr),
    step { s with pending := c :: rest } = exec c { s with pending := rest })
  ∧ (∀ s : State, s.pending = [] → step s = .next s)

/-- Every command completes with a next state and leaves the queue alone. -/
def Obligations.EveryCommandCompletes : Prop :=
  ∀ (c : Instr) (s : State), ∃ t, exec c s = .next t ∧ t.pending = s.pending

/-- While VSYS is absent, nothing but POR and RETENTION_LOSS changes anything (R124). That a command sent to an
unpowered part leaves its stored pins as they were is the model's choice (log 5). -/
def Obligations.NothingHappensWithoutVsys : Prop :=
  ∀ (c : Instr) (s : State), s.store.vsys = false → c ≠ .retentionLoss →
    (∀ v l, c ≠ .por v l) → exec c s = .next s

/-! ### Requests (chapter 10) -/

/-- A request transfer whose kind byte met a WORKING slot is refused BUSY: it changes no slot and reaches no check
(R189). Taken, one of the wrong length is answered BAD_LENGTH; of the right length, one that the policy denies
the port, or a POLICY_SET, POLICY_LOCK or SOFT_RESET on Port A, is answered DENIED; the body is empty and there
is no other effect (R194, steps 2 and 3; R196). The command stands for the transfer's end, its operand `began`
for what it met, and `busy` is the model's output (log 1 and 19). -/
def Obligations.RequestChecksInOrder : Prop :=
  (∀ (c : Instr) (k : Kind) (p : Port) (f : Frame) (s : State), c.asRequest = some (k, p, f) →
    s.store.vsys = true → (s.port p).met f.began = .working →
    exec c s = .next (s.setPort p { s.port p with
      sent := requestSends p .working f, busy := true, earlier := Earlier.none }))
  ∧ (∀ (c : Instr) (k : Kind) (p : Port) (f : Frame) (s : State), c.asRequest = some (k, p, f) →
    s.store.vsys = true → (s.port p).met f.began ≠ .working →
    ¬ (∃ l, f.len = some l ∧ l.toNat = k.bodyLen ∧ f.body.length = k.bodyLen) →
    exec c s = .next (s.replied p f (reply .badLength k [])))
  ∧ (∀ (c : Instr) (k : Kind) (p : Port) (f : Frame) (l : Byte) (s : State), c.asRequest = some (k, p, f) →
    s.store.vsys = true → (s.port p).met f.began ≠ .working →
    f.len = some l → l.toNat = k.bodyLen → f.body.length = k.bodyLen →
    ((∃ x, k.policyClass = some x ∧ (s.policy.row p).allows x = false)
      ∨ (p = .a ∧ (k = .policySet ∨ k = .policyLock ∨ k = .softReset))) →
    exec c s = .next (s.replied p f (reply .denied k [])))

/-- UNKNOWN_KIND and BUSY_REFUSAL: a taken request whose kind byte names no kind is answered UNKNOWN_KIND with the byte
echoed, without a check of its length (R194, step 1); a transfer whose kind byte met a WORKING slot, whatever its
kind byte and whatever the slot is at its end, only sends its bytes (R189). What a transfer met: a slot WORKING
now, else a state the slot has left since the port's latest transfer if the operand names it, else the slot as it
is; on Port A it is the first byte sent, 0x00 after it (R189, R206). An answer within the arrival leaves no
earlier state, a completion later leaves the one it ends (R190, R191). The operand, the record `earlier` and the
outputs `sent` and `busy` are the model's form (log 1 and 19). -/
def Obligations.UnknownAndBusyTransfers : Prop :=
  (∀ (p : Port) (kind : Byte) (f : Frame) (s : State), s.store.vsys = true → isRequestByte p kind = true →
    (Kind.known kind = false → (s.port p).met f.began ≠ .working →
      exec (.unknownKind p kind f) s
        = .next (s.replied p f { status := .unknownKind, kind := kind, body := [] }))
    ∧ ((s.port p).met f.began = .working →
      exec (.busyRefusal p kind f) s = .next (s.setPort p { s.port p with
        sent := requestSends p .working f, busy := true, earlier := Earlier.none })))
  ∧ (∀ x : PortState, x.met .now = x.slot.state
    ∧ (x.slot.state = .working → ∀ b, x.met b = .working)
    ∧ (x.earlier.working = true → x.met .whileWorking = .working)
    ∧ (x.earlier.working = false → x.met .whileWorking = x.slot.state)
    ∧ (x.earlier.answered = true → x.slot.state ≠ .working → x.met .whileAnswered = .answered)
    ∧ (x.earlier.answered = false → x.met .whileAnswered = x.slot.state))
  ∧ (∀ (m : SlotState) (f : Frame) (n : Nat) (b : Byte), (n = if f.len.isSome then f.body.length + 1 else f.body.length) →
    (b = match m with | .empty => 0 | .working => 1 | .answered => 2) →
    requestSends .a m f = b :: List.replicate n 0 ∧ requestSends .b m f = [])
  ∧ (∀ (p : Port) (a : Answer) (s : State),
    s.answer p a = s.setPort p { s.port p with slot := .answered a, earlier := Earlier.none }
    ∧ s.finish p a = s.setPort p { s.port p with slot := .answered a, earlier := {
        working := (s.port p).earlier.working || decide ((s.port p).slot.state = .working)
        answered := (s.port p).earlier.answered || decide ((s.port p).slot.state = .answered) } })

/-- FETCH hands over NONE from EMPTY, PENDING with the kind in flight from WORKING, and the answer from ANSWERED, which
alone changes the slot: to EMPTY, however many bytes are clocked out; on Port A the slot-state byte comes first
(R192, R206). The byte count, the outputs `sent` and `busy` and the record `earlier` are the model's form (log 1
and 19). -/
def Obligations.FetchHandsOver : Prop :=
  ∀ (p : Port) (n : Nat) (s : State), s.store.vsys = true →
    ∃ a slot' b, exec (.fetch p n) s = .next (s.setPort p { s.port p with
        slot := slot', busy := false, earlier := Earlier.none
        sent := (if p = .a then [b] else [])
          ++ (([a.status.code, a.kind] ++ beBytes 2 a.body.length ++ a.body) ++ List.replicate n 0).take n })
      ∧ ((s.port p).slot = .empty → a = { status := .none, kind := 0, body := [] } ∧ slot' = .empty ∧ b = 0)
      ∧ (∀ k t, (s.port p).slot = .working k t →
          a = { status := .pending, kind := k, body := [] } ∧ slot' = .working k t ∧ b = 1)
      ∧ (∀ x, (s.port p).slot = .answered x → a = x ∧ slot' = .empty ∧ b = 2)

/-! ### Notices and policy -/

/-- NOTICE_READ answers the port's whole set, masked kinds included, and empties it; ATTN falls. NOTICE_MASK refuses
an entry above 1, else replaces the port's mask, ATTN follows, and it answers mask and set (R201, R202). A
raised notice joins the set of each port the table of section 10.5 routes it to, and no other; nothing else
changes (R199, R200). -/
def Obligations.NoticesAndAttn : Prop :=
  (∀ (p : Port) (f : Frame) (s : State), s.Admits p .noticeRead f →
    exec (.noticeRead p f) s = .next ((s.setPort p { s.port p with notices := 0, attn := .low }).replied p f
      (reply .ok .noticeRead (beBytes 2 (s.port p).notices.toNat))))
  ∧ (∀ (p : Port) (f : Frame) (s : State), s.Admits p .noticeMask f →
    ((∃ x ∈ f.body, 1 < x.toNat) →
      exec (.noticeMask p f) s = .next (s.replied p f (reply .badValue .noticeMask [])))
    ∧ ((∀ x ∈ f.body, x.toNat ≤ 1) → ∃ mask : BitVec 16,
      (∀ i : Fin 16, mask.getLsbD i.val = decide (byteAt f.body i.val = 1))
      ∧ exec (.noticeMask p f) s = .next ((s.setPort p { s.port p with
          mask := mask, attn := attnLevel (s.port p).notices mask }).replied p f
        (reply .ok .noticeMask (beBytes 2 mask.toNat ++ beBytes 2 (s.port p).notices.toNat)))))
  ∧ (∀ (n : Notice) (s : State),
    s.raise n = { s with portA := (s.raise n).portA, portB := (s.raise n).portB }
    ∧ ∀ p : Port, (s.raise n).port p = (if n.routed p then { s.port p with
        notices := (s.port p).notices ||| BitVec.twoPow 16 n.bit
        attn := attnLevel ((s.port p).notices ||| BitVec.twoPow 16 n.bit) (s.port p).mask } else s.port p))

/-- POLICY_SET refuses an entry above 1, then a locked policy, else replaces the whole table; POLICY_LOCK sets the
lock; IDENTIFY answers part code, revision, latch, port, policy and lock (R197, R198, R205). Once locked, only
POR changes policy or lock (R198). With the default policy Port A is denied exactly the kinds of CATALOGUE,
RAILS and CHARGE and the three fixed to Port B, and Port B none (section 10.4). The width of the part
code is read from log 13, and the revision's width of one byte is the model's choice there (log 13). -/
def Obligations.PolicyRequests : Prop :=
  (∀ (p : Port) (f : Frame) (s : State), s.Admits p .policySet f →
    exec (.policySet p f) s = .next (
      if f.body.any (fun x => decide (1 < x.toNat)) then s.replied p f (reply .badValue .policySet [])
      else if s.locked then s.replied p f (reply .denied .policySet [])
      else ({ s with policy := { a := readRow f.body 0, b := readRow f.body 8 } }).replied p f
        (reply .ok .policySet f.body)))
  ∧ (∀ (p : Port) (f : Frame) (s : State), s.Admits p .policyLock f →
    exec (.policyLock p f) s = .next (({ s with locked := true }).replied p f (reply .ok .policyLock [])))
  ∧ (∀ (p : Port) (f : Frame) (s : State), s.Admits p .identify f →
    exec (.identify p f) s = .next (s.replied p f (reply .ok .identify
      ([0x46, 0x10, 1, if s.store.latch then 1 else 0, if p = .a then 0 else 1]
        ++ s.policy.enc ++ [if s.locked then 1 else 0]))))
  ∧ (∀ (c : Instr) (s t : State), s.locked = true → (∀ v l, c ≠ .por v l) → exec c s = .next t →
    t.locked = true ∧ t.policy = s.policy)
  ∧ (∀ (s : State) (k : Kind), s.policy = PolicyTable.default →
    s.allowed .b k = true
    ∧ (s.allowed .a k = false ↔ k ∈ ([Kind.cardSet, .formatCatalogue, .clipProtect, .clipUnprotect,
        .clipForget, .recoveryClear] : List Kind) ++ ([.railOn, .railOff, .supplySet, .chargeSet,
        .chargeEnable, .faultClear, .gaugeSet] : List Kind) ++ ([.policySet, .policyLock, .softReset] : List Kind)))

/-! ### Time (sections 1.1 to 1.4) -/

/-- TIME_READ answers the epoch and the current tick. TIME_PAIR arms its port's channel, starts a timeout of 2^20
ticks and stays in flight; a SYNC edge completes it OK with the epoch and the captured tick, the timeout TIMEOUT
with an empty body; an edge on a channel not armed is discarded (R5, R9, R10). A timeout sent at another tick
than its own changes nothing: the model's choice (log 2). -/
def Obligations.TimeAndPairing : Prop :=
  (∀ (p : Port) (f : Frame) (s : State), s.Admits p .timeRead f →
    exec (.timeRead p f) s = .next (s.replied p f (reply .ok .timeRead
      (beBytes 2 s.store.epoch.toNat ++ beBytes 6 s.tick.toNat))))
  ∧ (∀ (p : Port) (f : Frame) (s : State), s.Admits p .timePair f →
    exec (.timePair p f) s = .next ((s.flying p .timePair f).setPair p
      { armed := some ((s.port p).takings + 1), timeout := some (later s.tick (2 ^ 20)) }))
  ∧ (∀ (p : Port) (s : State), (s.pair p).timeout ≠ some s.tick → exec (.pairingTimeout p) s = .next s)
  ∧ (∀ (p : Port) (s : State), s.store.vsys = true → (s.pair p).armed = none →
    exec (.syncCapture p) s = .next (s.emptied (syncChannel p)))
  ∧ (∀ (p : Port) (n : Nat) (k : Byte) (s : State), s.store.vsys = true → (s.pair p).armed = some n →
    (s.port p).slot = .working k n →
    exec (.syncCapture p) s = .next (((s.emptied (syncChannel p)).setPair p Pairing.disarmed).finish p
      { status := .ok, kind := k, body := beBytes 2 s.store.epoch.toNat ++ beBytes 6 s.tick.toNat })
    ∧ ((s.pair p).timeout = some s.tick →
      exec (.pairingTimeout p) s = .next ((s.setPair p Pairing.disarmed).finish p
        { status := .timeout, kind := k, body := [] })))

/-- TICK_COUNTER_ADVANCE moves the counter on by one, from 2^48 − 1 to 0, and changes nothing else; POR sets it to 0
(R1). That no other command changes the tick is the model's choice (log 3); none but POR changes the epoch (R4). -/
def Obligations.TimeMovesOnlyByTickAndPor : Prop :=
  (∀ s : State, s.store.vsys = true →
    exec .tickCounterAdvance s = .next { s with tick := BitVec.ofNat 48 ((s.tick.toNat + 1) % 2 ^ 48) })
  ∧ (∀ (c : Instr) (s t : State), exec c s = .next t → (∀ v l, c ≠ .por v l) →
    t.store.epoch = s.store.epoch ∧ (c ≠ .tickCounterAdvance → t.tick = s.tick))
  ∧ (∀ (v : Nat) (l : Level) (s t : State), exec (.por v l) s = .next t → t.tick = 0)

/-! ### The wheel (sections 1.3 and 1.5) -/

/-- WHEEL_RAW_CHANGE: a return to the qualified level discards the pending change; a departure records one with the
current tick, unless one is pending; with Q = 0 it is qualified at once. WHEEL_QUALIFICATION: Q × 64 ticks after
its start the change is qualified, and a rise is a capture. A capture at tick `c` sets the period, the distance
from the previous one (1 for 0, absent when there is none or it exceeds 2,097,152), the stop timer and the band
by the table of R13 (R8, R11, R13). A WHEEL_QUALIFICATION sent at another tick than its own
changes nothing, the model's choice (log 2 and 3); that Q = 0 qualifies within the change is log 18. -/
def Obligations.WheelPulses : Prop :=
  (∀ (l : Level) (s : State), s.store.vsys = true → s.qualifier.raw ≠ l → l = s.qualifier.qualified →
    exec (.wheelRawChange l) s
      = .next { s with qualifier := { raw := l, qualified := s.qualifier.qualified, change := none } })
  ∧ (∀ (l : Level) (s : State), s.store.vsys = true → s.qualifier.raw ≠ l → l ≠ s.qualifier.qualified →
    s.wheel.q ≠ 0 → exec (.wheelRawChange l) s
      = .next { s with qualifier := { raw := l, qualified := s.qualifier.qualified
                                      change := some (s.qualifier.change.getD { level := l, start := s.tick }) } })
  ∧ (∀ (l : Level) (s : State), s.store.vsys = true → s.qualifier.raw ≠ l → l ≠ s.qualifier.qualified →
    s.wheel.q = 0 → s.qualifier.change = none → exec (.wheelRawChange l) s
      = .next (({ s with qualifier := { s.qualifier with raw := l } }).qualify { level := l, start := s.tick }))
  ∧ (∀ (c : PendingChange) (s : State), s.store.vsys = true → s.qualifier.change = some c →
    s.tick = later c.start (s.wheel.q * 64) → exec .wheelQualification s = .next (s.qualify c))
  ∧ (∀ s : State, (∀ c ∈ s.qualifier.change, s.tick ≠ later c.start (s.wheel.q * 64)) →
    exec .wheelQualification s = .next s)
  ∧ (∀ (c : PendingChange) (s : State), c.level = .low →
    s.qualify c = { s with qualifier := { s.qualifier with qualified := .low, change := none } })
  ∧ (∀ (c : PendingChange) (s : State), c.level = .high →
    s.qualify c = { s with qualifier := { s.qualifier with qualified := .high, change := none }
                           channels := { s.channels with wheel := none }, wheel := s.wheel.pulse c.start })
  ∧ (∀ (w : WheelMeter) (c : Tick),
    (w.pulse c).prev = some c ∧ (w.pulse c).stop = some (later c 2097152)
    ∧ (w.prev = none → (w.pulse c).period = none)
    ∧ (∀ p, w.prev = some p → 2097152 < dist c p → (w.pulse c).period = none)
    ∧ (∀ p, w.prev = some p → dist c p ≤ 2097152 → (w.pulse c).period = some (max 1 (dist c p)))
    ∧ (w.pulse c).w1 = w.w1 ∧ (w.pulse c).w2 = w.w2 ∧ (w.pulse c).w3 = w.w3 ∧ (w.pulse c).q = w.q
    ∧ ((w.pulse c).period = none → (w.pulse c).band = 0)
    ∧ (w.w3 < w.w2 → w.w2 < w.w1 → ∀ p, (w.pulse c).period = some p →
      (w.w1 ≤ p → (w.pulse c).band = 0) ∧ (w.w2 ≤ p → p < w.w1 → (w.pulse c).band = 1)
      ∧ (w.w3 ≤ p → p < w.w2 → (w.pulse c).band = 2) ∧ (p < w.w3 → (w.pulse c).band = 3)))

/-- STOP_TIMER_EXPIRY stops the meter; WHEEL_SET clamps, checks W1 > W2 > W3, takes the values and chooses the band
again; WHEEL_READ answers period, band and settings (R12, R14, R15). WHEEL_SET completes a pending change only
if its time is strictly past: the model's choice (log 18). -/
def Obligations.WheelMeterCommands : Prop :=
  (∀ s : State, s.store.vsys = true → s.wheel.stop = some s.tick → exec .stopTimerExpiry s
    = .next { s with wheel := { s.wheel with prev := none, period := none, stop := none, band := 0 } })
  ∧ (∀ (p : Port) (f : Frame) (s : State), s.Admits p .wheelRead f →
    exec (.wheelRead p f) s = .next (s.replied p f (reply .ok .wheelRead
      ((match s.wheel.period with
        | some x => 1 :: beBytes 4 x
        | none => [0, 0, 0, 0, 0])
        ++ beBytes 1 s.wheel.band.val ++ beBytes 1 s.wheel.q ++ beBytes 4 s.wheel.w1 ++ beBytes 4 s.wheel.w2
        ++ beBytes 4 s.wheel.w3))))
  ∧ (∀ (p : Port) (f : Frame) (w1 w2 w3 : Nat) (s : State), s.Admits p .wheelSet f →
    w1 = clamp 1 2097152 (field f.body 1 4) → w2 = clamp 1 2097152 (field f.body 5 4) →
    w3 = clamp 1 2097152 (field f.body 9 4) →
    (¬ (w2 < w1 ∧ w3 < w2) →
      exec (.wheelSet p f) s = .next (s.replied p f (reply .badValue .wheelSet [])))
    ∧ (w2 < w1 → w3 < w2 → (∀ c ∈ s.qualifier.change, dist s.tick c.start ≤ field f.body 0 1 * 64) →
      exec (.wheelSet p f) s = .next (({ s with
          wheel := ({ s.wheel with q := field f.body 0 1, w1 := w1, w2 := w2, w3 := w3 }).reband }).replied p f
        (reply .ok .wheelSet (beBytes 1 (field f.body 0 1) ++ beBytes 4 w1 ++ beBytes 4 w2 ++ beBytes 4 w3))))
    ∧ (w2 < w1 → w3 < w2 → ∀ c ∈ s.qualifier.change, field f.body 0 1 * 64 < dist s.tick c.start →
      exec (.wheelSet p f) s = .next ((({ s with
          wheel := ({ s.wheel with q := field f.body 0 1, w1 := w1, w2 := w2, w3 := w3 }).reband }).qualify c).replied
        p f (reply .ok .wheelSet
          (beBytes 1 (field f.body 0 1) ++ beBytes 4 w1 ++ beBytes 4 w2 ++ beBytes 4 w3)))))

/-! ### The generators (section 1.6) -/

/-- GENERATOR_PERIOD_START at s + p begins a period with the staged values, or the present ones, and on FTRIG is a
frame trigger; GENERATOR_WIDTH_END at s + w, with 0 < w < p, drives the output low (R16, R18). -/
def Obligations.GeneratorEdges : Prop :=
  (∀ (g : GenId) (p w : Nat) (s : State), s.store.vsys = true → (s.gen g).running = true →
    s.tick = later (s.gen g).start (s.gen g).period →
    (∀ x ∈ (s.gen g).staged, p = x.period ∧ w = x.width) →
    ((s.gen g).staged = none → p = (s.gen g).period ∧ w = (s.gen g).width) →
    ∃ t, t = s.setGen g { running := true, period := p, width := w, start := s.tick, staged := none
                          output := if w = 0 then .low else .high }
      ∧ exec (.generatorPeriodStart g) s = .next (match g with
        | .ftrig => t.frameTrigger
        | .iset => t))
  ∧ (∀ (g : GenId) (s : State), s.store.vsys = true → (s.gen g).running = true → 0 < (s.gen g).width →
    (s.gen g).width < (s.gen g).period → s.tick = later (s.gen g).start (s.gen g).width →
    exec (.generatorWidthEnd g) s = .next (s.setGen g { s.gen g with output := .low }))

/-! ### The Motion Sensor Link (chapter 2) -/

/-- IMU_LINK_SET and IMU_BANK_WRITE: their checks in order, what they store and answer (R20, R22). -/
def Obligations.LinkSettingRequests : Prop :=
  (∀ (p : Port) (f : Frame) (s : State), s.Admits p .imuLinkSet f →
    exec (.imuLinkSet p f) s = .next (
      if s.link.state ≠ .off ∧ s.link.state ≠ .failed then s.replied p f (reply .wrongState .imuLinkSet [])
      else if 127 < field f.body 0 1 ∨ 116 < field f.body 2 1 ∨ 1 < field f.body 3 1 then
        s.replied p f (reply .badValue .imuLinkSet [])
      else ({ s with link := { s.link with settings :=
          { idAddr := byteAt f.body 0, idValue := byteAt f.body 1, sampleAddr := byteAt f.body 2
            order := if byteAt f.body 3 = 0 then .little else .big
            pImu := clamp 64 16384 (field f.body 4 4) } } }).replied p f
        (reply .ok .imuLinkSet ([byteAt f.body 0, byteAt f.body 1, byteAt f.body 2
          , if byteAt f.body 3 = 0 then 0 else 1] ++ beBytes 4 (clamp 64 16384 (field f.body 4 4))))))
  ∧ (∀ (p : Port) (f : Frame) (s : State), s.Admits p .imuBankWrite f →
    (31 < field f.body 0 1 ∨ 127 < field f.body 2 1 →
      exec (.imuBankWrite p f) s = .next (s.replied p f (reply .badValue .imuBankWrite [])))
    ∧ (∀ (i : Fin 32) (e : BankEntry), field f.body 0 1 = i.val → field f.body 2 1 ≤ 127 →
      e = { valid := flagAt f.body 1, addr := byteAt f.body 2, value := byteAt f.body 3
            verify := flagAt f.body 4, locked := flagAt f.body 5 } →
      exec (.imuBankWrite p f) s = .next (
        if s.link.state = .configuring then s.replied p f (reply .wrongState .imuBankWrite [])
        else ({ s with link := { s.link with bank := s.link.bank.set i.val e } }).replied p f
          (reply .ok .imuBankWrite (encBool e.valid ++ [e.addr, e.value] ++ encBool e.verify
            ++ encBool e.locked)))))

/-- IMU_BANK_READ: in every link state and whatever the policy, an index up to 31 is answered OK with the entry as
stored, all five fields, and one above 31 BAD_VALUE; nothing changes but the port it came on (R23). The answer
goes through `State.replied`, which also sets the model's own outputs of the port (`sent`, `busy` and the taking
count, log 10 and 19). -/
def Obligations.BankReadReturnsTheEntry : Prop :=
  Kind.imuBankRead.policyClass = none
  ∧ ∀ (p : Port) (l index : Byte) (b : Began) (s : State), s.store.vsys = true → (s.port p).met b ≠ .working →
    l.toNat = 1 →
    (31 < index.toNat → exec (.imuBankRead p { len := some l, body := [index], began := b }) s
      = .next (s.replied p { len := some l, body := [index], began := b } (reply .badValue .imuBankRead [])))
    ∧ (∀ i : Fin 32, index.toNat = i.val → exec (.imuBankRead p { len := some l, body := [index], began := b }) s
      = .next (s.replied p { len := some l, body := [index], began := b } (reply .ok .imuBankRead
        (encBool s.link.bank[i].valid ++ [s.link.bank[i].addr, s.link.bank[i].value]
          ++ encBool s.link.bank[i].verify ++ encBool s.link.bank[i].locked))))

/-- IMU_STATUS answers state, attempt counter, GAP count, settings and queue length. IMU_START in OFF or FAILED sets
both counts to 0 and enters POWERING for 2^16 ticks; elsewhere WRONG_STATE. IMU_STOP answers OK in every state;
out of OFF it takes the link down to OFF (R24, R25, R37). -/
def Obligations.LinkStartAndStop : Prop :=
  (∀ (p : Port) (f : Frame) (s : State), s.Admits p .imuStatus f →
    exec (.imuStatus p f) s = .next (s.replied p f (reply .ok .imuStatus
      ([s.link.state.code] ++ beBytes 1 s.link.attempts ++ beBytes 2 s.link.gaps
        ++ [s.link.settings.idAddr, s.link.settings.idValue, s.link.settings.sampleAddr, s.link.settings.order.code]
        ++ beBytes 4 s.link.settings.pImu ++ beBytes 1 s.link.queue.length))))
  ∧ (∀ (p : Port) (f : Frame) (s : State), s.Admits p .imuStart f →
    exec (.imuStart p f) s = .next (
      if s.link.state = .off ∨ s.link.state = .failed then
        ({ s with link := { s.link with attempts := 0, gaps := 0, state := .powering, recovery := none
                                        startup := some (later s.tick 65536) } }).replied p f
          (reply .ok .imuStart [])
      else s.replied p f (reply .wrongState .imuStart [])))
  ∧ (∀ (p : Port) (f : Frame) (s : State), s.Admits p .imuStop f →
    exec (.imuStop p f) s = .next (((s.flying p .imuStop f).linkStop).answer p (reply .ok .imuStop [])))
  ∧ (∀ s : State, s.link.state = .off → s.linkStop = s)
  ∧ (∀ s : State, s.link.state ≠ .off → s.linkStop = s.linkDown .off
    ∧ (s.linkStop).link.state = .off ∧ (s.linkStop).link.bus = .free
    ∧ (s.linkStop).link.queue = [] ∧ (s.linkStop).channels.drdy = none ∧ (s.linkStop).link.startup = none
    ∧ (s.linkStop).link.recovery = none ∧ (s.linkStop).link.stall = none
    ∧ (s.linkStop).link.attempts = s.link.attempts ∧ (s.linkStop).link.gaps = s.link.gaps
    ∧ (s.linkStop).link.settings = s.link.settings ∧ (s.linkStop).link.bank = s.link.bank
    ∧ (s.linkStop).motion.acc = s.motion.acc ∧ (s.linkStop).motion.bias = s.motion.bias
    ∧ (s.linkStop).motion.history = s.motion.history
    ∧ s.linkStop = { s with link := s.linkStop.link, channels := s.linkStop.channels, motion := s.linkStop.motion
                            catalogue := s.linkStop.catalogue, portA := s.linkStop.portA
                            portB := s.linkStop.portB })

/-- STARTUP_EXPIRY begins the identity read. An identity or verify match, or a write of an entry without verify, goes on
with the next valid entry in index order, or with RUNNING when none remains; a mismatch or a stall fails the
attempt (R26, R27, R33). With fewer than three failures the link enters RECOVERING for 2^14 ticks with the
counter one higher, else FAILED with IMU_FAILED on both ports; RECOVERY_EXPIRY powers the sensor up again (R28,
R29). The link going down frees the bus, discards the held capture, completes each queued IMU_ACCESS WRONG_STATE
in its port's slot, and out of RUNNING stops the integrator (R19, R28, R36, R52). The body of that completion, the
address alone, is read from log 14, and that the first-sample indication is kept from log 20. -/
def Obligations.LinkConfiguresFailsRecovers : Prop :=
  (∀ s : State, s.store.vsys = true → s.link.startup = some s.tick →
    exec .startupExpiry s = .next { s with link := { s.link with
      state := .configuring, startup := none, bus := .identityRead } })
  ∧ (∀ (v : Byte) (s : State), s.store.vsys = true → s.link.bus = .identityRead →
    exec (.identityReadComplete v) s
      = .next (if v = s.link.settings.idValue then s.replay 0 else s.attemptFails))
  ∧ (∀ (i : Fin 32) (s : State), s.store.vsys = true → s.link.bus = .bankWrite i →
    exec .bankWriteComplete s = .next (if s.link.bank[i].verify = true then
      { s with link := { s.link with bus := .verifyRead i } } else s.replay (i.val + 1)))
  ∧ (∀ (i : Fin 32) (v : Byte) (s : State), s.store.vsys = true → s.link.bus = .verifyRead i →
    exec (.verifyReadComplete v) s
      = .next (if v = s.link.bank[i].value then s.replay (i.val + 1) else s.attemptFails))
  ∧ (∀ (n : Nat) (i : Fin 32) (s : State), n ≤ i.val → s.link.bank[i].valid = true →
    (∀ j : Fin 32, n ≤ j.val → j < i → s.link.bank[j].valid = false) →
    s.replay n = { s with link := { s.link with bus := .bankWrite i } })
  ∧ (∀ (n : Nat) (s : State), (∀ j : Fin 32, n ≤ j.val → s.link.bank[j].valid = false) →
    ∃ t, t = { s with link := { s.link with
        state := .running, bus := .free, stall := some (later s.tick (4 * s.link.settings.pImu)), first := true
        replaced := false } }
      ∧ s.replay n = if 0 < s.link.attempts then t.raise .imuRecovered else t)
  ∧ (∀ s : State, s.store.vsys = true → s.link.stall = some s.tick →
    exec .stallExpiry s = .next s.attemptFails)
  ∧ (∀ s : State, s.link.attempts < 3 → s.attemptFails = { s.linkDown .recovering with
    link := { (s.linkDown .recovering).link with
      attempts := s.link.attempts + 1, recovery := some (later s.tick 16384) } })
  ∧ (∀ s : State, 3 ≤ s.link.attempts → s.attemptFails = (s.linkDown .failed).raise .imuFailed)
  ∧ (∀ (x : LinkState) (s : State), (s.linkDown x).link = { s.link with
      state := x, bus := .free, queue := [], replaced := false, startup := none, recovery := none, stall := none }
    ∧ (s.linkDown x).channels = { s.channels with drdy := none }
    ∧ s.linkDown x = { s with link := (s.linkDown x).link, channels := (s.linkDown x).channels
                              motion := (s.linkDown x).motion, catalogue := (s.linkDown x).catalogue
                              portA := (s.linkDown x).portA, portB := (s.linkDown x).portB })
  ∧ (∀ (x : LinkState) (s : State),
    (s.link.state = .running → (s.linkDown x).motion = s.motionStop.motion
      ∧ (s.linkDown x).catalogue = s.motionStop.catalogue
      ∧ (s.linkDown x).portB.notices = s.motionStop.portB.notices
      ∧ (s.linkDown x).portB.attn = s.motionStop.portB.attn)
    ∧ (s.link.state ≠ .running → (s.linkDown x).motion = s.motion ∧ (s.linkDown x).catalogue = s.catalogue
      ∧ (s.linkDown x).portB.notices = s.portB.notices ∧ (s.linkDown x).portB.attn = s.portB.attn)
    ∧ (s.linkDown x).portA = { s.portA with
        slot := (s.linkDown x).portA.slot, earlier := (s.linkDown x).portA.earlier }
    ∧ (s.linkDown x).portB = { s.portB with
        slot := (s.linkDown x).portB.slot, earlier := (s.linkDown x).portB.earlier
        notices := (s.linkDown x).portB.notices, attn := (s.linkDown x).portB.attn }
    ∧ ∀ p : Port, (∀ a ∈ s.link.queue, a.ticket.port = p → ∀ k, (s.port p).slot ≠ .working k a.ticket.taking) →
      ((s.linkDown x).port p).slot = (s.port p).slot)
  ∧ (∀ (x : LinkState) (a : Access) (before rest : List Access) (k : Byte) (s : State),
    s.link.queue = before ++ a :: rest → (∀ y ∈ before, y.ticket ≠ a.ticket) →
    (s.port a.ticket.port).slot = .working k a.ticket.taking →
    ((s.linkDown x).port a.ticket.port).slot
      = .answered { status := .wrongState, kind := k, body := [a.addr] })
  ∧ (∀ s : State, s.store.vsys = true → s.link.recovery = some s.tick →
    exec .recoveryExpiry s = .next { s with link := { s.link with
      state := .powering, recovery := none, startup := some (later s.tick 65536) } })

/-- DRDY_CAPTURE: out of RUNNING it is discarded; in RUNNING it restarts the stall timer; on a free bus its burst
starts, not GAP; else it is held (R19, R31). SAMPLE_BURST_COMPLETE hands on the sample that the twelve bytes spell
in the sensor's byte order, gyro X, Y, Z then accel X, Y, Z (R21), clears the first-sample indication and counts a
GAP read; PASS_THROUGH_COMPLETE answers its request and removes it, or answers none if it has been abandoned; both
serve the bus: a held capture before the oldest waiting request (R32, R34, R36). A replaced held capture leaves
its GAP indication as log 24 reads it, and a second capture in one tick is taken as any other by log 32. -/
def Obligations.SamplingAndBus : Prop :=
  (∀ s : State, s.store.vsys = true →
    (s.link.state ≠ .running → exec .drdyCapture s = .next (s.emptied .drdy))
    ∧ (s.link.state = .running → s.link.bus = .free →
      exec .drdyCapture s = .next { s.emptied .drdy with link := { s.link with
        stall := some (later s.tick (4 * s.link.settings.pImu)), bus := .sampleBurst s.tick false } })
    ∧ (s.link.state = .running → s.link.bus ≠ .free →
      exec .drdyCapture s = .next { s.capture .drdy s.tick with link := { s.link with
        stall := some (later s.tick (4 * s.link.settings.pImu)), replaced := s.channels.drdy.isSome } }))
  ∧ (∀ (b : Vector Byte 12) (c : Tick) (gap : Bool) (s : State), s.store.vsys = true →
    s.link.bus = .sampleBurst c gap → ∃ t, t = s.sample (assemble s.link.settings.order b c s.link.first)
      ∧ exec (.sampleBurstComplete b) s = .next (({ t with link := { t.link with
          first := false, gaps := if gap then min 65535 (t.link.gaps + 1) else t.link.gaps } }).serveBus true))
  ∧ (∀ (a : Access) (v k : Byte) (s : State), s.store.vsys = true → s.link.bus = .passThrough a →
    (s.port a.ticket.port).slot = .working k a.ticket.taking →
    exec (.passThroughComplete v) s = .next (({ s.finish a.ticket.port
        { status := .ok, kind := k, body := [a.addr, if a.write then a.data else v] } with
      link := { s.link with queue := s.link.queue.filter fun x => x.ticket != a.ticket } }).serveBus
        s.link.replaced))
  ∧ (∀ (a : Access) (v : Byte) (s : State), s.store.vsys = true → s.link.bus = .passThrough a →
    (∀ k, (s.port a.ticket.port).slot ≠ .working k a.ticket.taking) →
    exec (.passThroughComplete v) s = .next (({ s with
      link := { s.link with queue := s.link.queue.filter fun x => x.ticket != a.ticket } }).serveBus s.link.replaced))
  ∧ (∀ (b : Vector Byte 12) (t : Tick) (first : Bool) (v : Byte → Byte → Int),
    (∀ hi lo : Byte, v hi lo = if hi.toNat < 128 then (hi.toNat * 256 + lo.toNat : Int)
      else (hi.toNat * 256 + lo.toNat : Int) - 65536) →
    assemble .little b t first = { tick := t, first := first
                                   gyro := { x := v b[1] b[0], y := v b[3] b[2], z := v b[5] b[4] }
                                   accel := { x := v b[7] b[6], y := v b[9] b[8], z := v b[11] b[10] } }
    ∧ assemble .big b t first = { tick := t, first := first
                                  gyro := { x := v b[0] b[1], y := v b[2] b[3], z := v b[4] b[5] }
                                  accel := { x := v b[6] b[7], y := v b[8] b[9], z := v b[10] b[11] } })
  ∧ (∀ (c : Tick) (gap : Bool) (s : State), s.channels.drdy = some c →
    s.serveBus gap = { s.emptied .drdy with
      link := { s.link with bus := .sampleBurst c gap, replaced := false } })
  ∧ (∀ (a : Access) (rest : List Access) (gap : Bool) (s : State), s.channels.drdy = none →
    s.link.queue = a :: rest → s.serveBus gap = { s with link := { s.link with bus := .passThrough a } })
  ∧ (∀ (gap : Bool) (s : State), s.channels.drdy = none → s.link.queue = [] →
    s.serveBus gap = { s with link := { s.link with bus := .free } })

/-- IMU_ACCESS: BAD_VALUE, then WRONG_STATE out of RUNNING, then DENIED for a WRITE to a locked address; else it joins the
queue in flight, and on a free bus its transfer starts (R34, R35). That the direction byte is READ for 0 and WRITE
for 1 is read from log 12. -/
def Obligations.ImuAccessIsCheckedAndQueued : Prop :=
  ∀ (p : Port) (f : Frame) (a : Access) (s : State), s.Admits p .imuAccess f →
    a = { ticket := { port := p, taking := (s.port p).takings + 1 }, write := flagAt f.body 0
          addr := byteAt f.body 1, data := byteAt f.body 2 } →
    exec (.imuAccess p f) s = .next (
      if 1 < field f.body 0 1 ∨ 127 < field f.body 1 1 then s.replied p f (reply .badValue .imuAccess [])
      else if s.link.state ≠ .running then s.replied p f (reply .wrongState .imuAccess [])
      else if a.write = true ∧ (∃ i : Fin 32, s.link.bank[i].valid = true ∧ s.link.bank[i].locked = true
          ∧ s.link.bank[i].addr = a.addr) then s.replied p f (reply .denied .imuAccess [])
      else { s.flying p .imuAccess f with link := { s.link with
        queue := s.link.queue ++ [a], bus := if s.link.bus = .free then .passThrough a else s.link.bus } })

/-! ### Motion integration (chapter 3) -/

/-- A sample, once mapped and scaled: with u = nearest(g × G / 1024) and w = u − b, each saturated to ±32767, each
accumulator becomes C − truncate(C / 2^L) + w × dt, saturated to ±(2^39 − 1) and pinned at its limit, and the
history entry is appended; `nearest` is the closest integer, halves away from zero (R40 to R44, R46). The integrator
that `Motion.absorb` gives, of which StillWindowLearnsTheBias and ShockEpisodesAndCrashWatch speak, is put in place, the
bands are examined with its history, and then the episode that ended is delivered, or the watch checked for a crash
(R39, R51, R55, R69). A sample whose previous tick is absent counts as RESTART (log 15). -/
def Obligations.SampleIntegrates : Prop :=
  (∀ (x : Sample) (s : State) (u w c : Axes Int) (dt : Nat) (restart : Bool) (sat : Nat → Int → Int),
    (sat = fun (n : Nat) (v : Int) => max (-(n : Int)) (min (n : Int) v)) →
    (restart = match s.motion.prev with
      | none => true
      | some p => x.first || decide (8 * s.link.settings.pImu < dist x.tick p)) →
    (dt = if restart then 0 else (s.motion.prev.map (dist x.tick)).getD 0) →
    u = { yaw := sat 32767 (nearest (s.motion.settings.map.yaw.apply x.gyro * s.motion.settings.gain) 1024)
          pitch := sat 32767 (nearest (s.motion.settings.map.pitch.apply x.gyro * s.motion.settings.gain) 1024)
          roll := sat 32767 (nearest (s.motion.settings.map.roll.apply x.gyro * s.motion.settings.gain) 1024) } →
    w = { yaw := sat 32767 (u.yaw - s.motion.bias.yaw), pitch := sat 32767 (u.pitch - s.motion.bias.pitch)
          roll := sat 32767 (u.roll - s.motion.bias.roll) } →
    (∀ L : Nat, L = s.motion.settings.leak[s.wheel.band] → c =
      { yaw := sat (2 ^ 39 - 1) (s.motion.acc.yaw - Int.tdiv s.motion.acc.yaw (2 ^ L) + w.yaw * dt)
        pitch := sat (2 ^ 39 - 1) (s.motion.acc.pitch - Int.tdiv s.motion.acc.pitch (2 ^ L) + w.pitch * dt)
        roll := sat (2 ^ 39 - 1) (s.motion.acc.roll - Int.tdiv s.motion.acc.roll (2 ^ L) + w.roll * dt) }) →
    (s.sample x).motion.acc = { yaw := sat s.motion.limit.yaw c.yaw, pitch := sat s.motion.limit.pitch c.pitch
                                roll := sat s.motion.limit.roll c.roll }
    ∧ s.sample x = { s with motion := (s.sample x).motion, frames := (s.sample x).frames
                            catalogue := (s.sample x).catalogue, portA := (s.sample x).portA
                            portB := (s.sample x).portB }
    ∧ (s.sample x).motion.prev = some x.tick ∧ (s.sample x).motion.limit = s.motion.limit
    ∧ (s.sample x).motion.settings = s.motion.settings
    ∧ (s.sample x).motion.history =
      (if 64 ≤ s.motion.history.length then s.motion.history.tail else s.motion.history)
        ++ [{ tick := x.tick, acc := (s.sample x).motion.acc, restart := restart
              pinned := { yaw := decide (s.motion.limit.yaw < c.yaw.natAbs)
                          pitch := decide (s.motion.limit.pitch < c.pitch.natAbs)
                          roll := decide (s.motion.limit.roll < c.roll.natAbs) } }])
  ∧ (∀ (s t : State) (x : Sample) (m : Motion) (ended : Option Episode),
    (m, ended) = s.motion.absorb x s.link.settings.pImu s.wheel.band → t = ({ s with motion := m } : State).examine →
    s.sample x = match ended with
      | some e => t.episodeEnd e
      | none => t.crashCheck)
  ∧ (∀ (m : Motion) (pImu : Nat) (x : Sample),
    (m.prev = none → m.interval pImu x = (0, true))
    ∧ (∀ p, m.prev = some p → x.first = true ∨ 8 * pImu < dist x.tick p → m.interval pImu x = (0, true))
    ∧ (∀ p, m.prev = some p → x.first = false → dist x.tick p ≤ 8 * pImu →
      m.interval pImu x = (dist x.tick p, false)))
  ∧ (∀ (gain : Nat) (g : Int), scaled gain g = max (-32767) (min 32767 (nearest (g * gain) 1024)))
  ∧ (∀ (a : AxisMap) (r : Raw3), (a.minus = false → a.apply r = r.get a.src)
    ∧ (a.minus = true → r.get a.src = -32768 → a.apply r = 32767)
    ∧ (a.minus = true → -32767 ≤ r.get a.src → a.apply r = -(r.get a.src)))
  ∧ (∀ (n : Int) (d : Nat), 0 < d → 2 * (n - nearest n d * d).natAbs ≤ d
    ∧ (2 * (n - nearest n d * d).natAbs = d → n.natAbs ≤ (nearest n d * d).natAbs))

/-- A sample is still when |u| ≤ S on every axis. A still sample joins the still window, which at 4096 writes the
biases and is emptied; one that is not still empties it. A RESTART sample starts it afresh (R42, R47, R48). -/
def Obligations.StillWindowLearnsTheBias : Prop :=
  ∀ (m : Motion) (x : Sample) (pImu : Nat) (band : Fin 4) (u sum : Axes Int) (count : Nat) (restart : Bool),
    restart = (m.interval pImu x).2 →
    u = m.settings.map.map (fun a => scaled m.settings.gain (a.apply x.gyro)) →
    (count = if restart then 0 else m.stillCount) → (sum = if restart then Axes.all 0 else m.stillSum) →
    ((m.settings.still < u.yaw.natAbs ∨ m.settings.still < u.pitch.natAbs ∨ m.settings.still < u.roll.natAbs) →
      (m.absorb x pImu band).1.stillCount = 0 ∧ (m.absorb x pImu band).1.stillSum = Axes.all 0
      ∧ (m.absorb x pImu band).1.bias = m.bias)
    ∧ (u.yaw.natAbs ≤ m.settings.still → u.pitch.natAbs ≤ m.settings.still → u.roll.natAbs ≤ m.settings.still →
      (count + 1 ≠ 4096 → (m.absorb x pImu band).1.stillCount = count + 1
        ∧ (m.absorb x pImu band).1.stillSum
          = { yaw := sum.yaw + u.yaw, pitch := sum.pitch + u.pitch, roll := sum.roll + u.roll }
        ∧ (m.absorb x pImu band).1.bias = m.bias)
      ∧ (count + 1 = 4096 → (m.absorb x pImu band).1.stillCount = 0
        ∧ (m.absorb x pImu band).1.stillSum = Axes.all 0
        ∧ (m.absorb x pImu band).1.bias
          = { yaw := clampInt (-2048) 2047 (nearest (sum.yaw + u.yaw) 4096)
              pitch := clampInt (-2048) 2047 (nearest (sum.pitch + u.pitch) 4096)
              roll := clampInt (-2048) 2047 (nearest (sum.roll + u.roll) 4096) }))

/-- The episode and the watch under a sample of magnitude k, the greatest of the three, −32768 counting as 32767: in NONE
a sample at or above Ts begins an episode and cancels a watch; in ACTIVE it raises the peak and sets the quiet
count to 0; 64 samples below Ts end the episode; a watch counts still samples, and a committed run that breaks
ends it (R50, R51, R53). The end of an episode: its shock event, SHOCK on Port B, and a watch of 2^22 ticks when
the peak reached Tc; leaving RUNNING no watch, and the still window is emptied (R51 to R53). WATCH_TIMER_EXPIRY
ends the watch or commits its run (R54). That a RESTART sample sets the run to 0 and keeps the run-committed
indication is read from log 15. -/
def Obligations.ShockEpisodesAndCrashWatch : Prop :=
  (∀ (m q : Motion) (x : Sample) (pImu k : Nat) (band : Fin 4) (ended : Option Episode) (restart still : Bool),
    (q, ended) = m.absorb x pImu band → restart = (m.interval pImu x).2 →
    k = magnitude (m.settings.map.map fun a => a.apply x.accel) →
    still = isStill m.settings.still (m.settings.map.map fun a => scaled m.settings.gain (a.apply x.gyro)) →
    (m.episode = none → k < m.settings.shock → q.episode = none ∧ ended = none)
    ∧ (m.episode = none → m.settings.shock ≤ k → q.watch = none ∧ ended = none
      ∧ q.episode = some { start := x.tick, peak := k, band := band, quiet := 0 })
    ∧ (∀ e ∈ m.episode,
      (m.settings.shock ≤ k → ended = none ∧ q.episode = some { e with peak := max e.peak k, quiet := 0 })
      ∧ (k < m.settings.shock → e.quiet + 1 ≠ 64 →
        ended = none ∧ q.episode = some { e with peak := max e.peak k, quiet := e.quiet + 1 })
      ∧ (k < m.settings.shock → e.quiet + 1 = 64 →
        q.episode = none ∧ ended = some { e with peak := max e.peak k, quiet := 64 }))
    ∧ (m.watch = none → q.watch = none)
    ∧ (∀ w ∈ m.watch, m.episode = none → k < m.settings.shock →
      (still = true → q.watch = some { w with run := (if restart then 0 else w.run) + 1 })
      ∧ (still = false → w.committed = true → q.watch = none)
      ∧ (still = false → w.committed = false → q.watch = some { w with run := 0 })))
  ∧ (∀ (threshold : Nat) (u : Axes Int), isStill threshold u = true ↔
    u.yaw.natAbs ≤ threshold ∧ u.pitch.natAbs ≤ threshold ∧ u.roll.natAbs ≤ threshold)
  ∧ (∀ (a : Axes Int) (one : Int → Nat), (one = fun v => if v = -32768 then 32767 else v.natAbs) →
    (∀ v ∈ a.toList, -32768 ≤ v ∧ v ≤ 32767) → magnitude a = max (one a.yaw) (max (one a.pitch) (one a.roll)))
  ∧ (∀ (e : Episode) (w : Watch) (s : State),
    w = { start := e.start, peak := e.peak, run := 0, committed := false, timer := some (later s.tick (2 ^ 22)) } →
    (s.episodeEnd e).motion = { s.motion with
      watch := if s.motion.settings.crash ≤ e.peak then some w else s.motion.watch }
    ∧ (s.episodeEnd e).portB = { s.portB with
        notices := s.portB.notices ||| 0x0020, attn := attnLevel (s.portB.notices ||| 0x0020) s.portB.mask }
    ∧ (s.episodeEnd e).catalogue = (s.shockMark e.start e.peak e.band).catalogue
    ∧ s.episodeEnd e = { s with motion := (s.episodeEnd e).motion, catalogue := (s.episodeEnd e).catalogue
                                portB := (s.episodeEnd e).portB })
  ∧ (∀ s : State, (s.motionStop).motion = { s.motion with
      episode := none, watch := none, stillCount := 0, stillSum := Axes.all 0 }
    ∧ s.motionStop = { s with motion := s.motionStop.motion, catalogue := s.motionStop.catalogue
                              portB := s.motionStop.portB }
    ∧ (s.motion.episode = none → (s.motionStop).catalogue = s.catalogue ∧ (s.motionStop).portB = s.portB)
    ∧ (∀ e ∈ s.motion.episode, (s.motionStop).portB = { s.portB with
        notices := s.portB.notices ||| 0x0020, attn := attnLevel (s.portB.notices ||| 0x0020) s.portB.mask }
      ∧ (s.motionStop).catalogue = (s.shockMark e.start e.peak e.band).catalogue))
  ∧ (∀ (w : Watch) (s : State), s.store.vsys = true → s.motion.watch = some w → w.timer = some s.tick →
    exec .watchTimerExpiry s = .next { s with motion := { s.motion with
      watch := if w.run = 0 then none else some { w with committed := true, timer := none } } })

/-- BIAS_SET clamps and takes three biases; MOTION_SET refuses a map that is no permutation, else clamps and takes
six settings; both empty the still window. MOTION_READ reports. LENS_SET clamps and takes five settings,
recomputes the limits and repins (R45, R49, R57, R58, R60). -/
def Obligations.MotionRequests : Prop :=
  (∀ (p : Port) (f : Frame) (v : Axes Int) (s : State), s.Admits p .biasSet f →
    v = { yaw := clampInt (-2048) 2047 (fieldInt f.body 0 2), pitch := clampInt (-2048) 2047 (fieldInt f.body 2 2)
          roll := clampInt (-2048) 2047 (fieldInt f.body 4 2) } →
    exec (.biasSet p f) s = .next (({ s with motion := { s.motion with
        bias := v, stillCount := 0, stillSum := Axes.all 0 } }).replied p f
      (reply .ok .biasSet (beInt 2 v.yaw ++ beInt 2 v.pitch ++ beInt 2 v.roll))))
  ∧ (∀ (p : Port) (f : Frame) (s : State), s.Admits p .motionSet f →
    (¬ (∃ y q r : AxisMap, y.code = byteAt f.body 2 ∧ q.code = byteAt f.body 3 ∧ r.code = byteAt f.body 4
        ∧ y.src ≠ q.src ∧ y.src ≠ r.src ∧ q.src ≠ r.src) →
      exec (.motionSet p f) s = .next (s.replied p f (reply .badValue .motionSet [])))
    ∧ (∀ x : MotionSettings, x.map.yaw.code = byteAt f.body 2 → x.map.pitch.code = byteAt f.body 3 →
      x.map.roll.code = byteAt f.body 4 → x.map.yaw.src ≠ x.map.pitch.src → x.map.yaw.src ≠ x.map.roll.src →
      x.map.pitch.src ≠ x.map.roll.src → x.gain = clamp 1 4095 (field f.body 0 2) →
      x.leak = #v[clamp 4 16 (field f.body 5 1), clamp 4 16 (field f.body 6 1), clamp 4 16 (field f.body 7 1),
        clamp 4 16 (field f.body 8 1)] → x.still = min 255 (field f.body 9 2) →
      x.shock = clamp 1 32767 (field f.body 11 2) →
      x.crash = max x.shock (clamp 1 32767 (field f.body 13 2)) →
      exec (.motionSet p f) s = .next (({ s with motion := { s.motion with
          settings := x, stillCount := 0, stillSum := Axes.all 0 } }).replied p f
        (reply .ok .motionSet x.enc))))
  ∧ (∀ (p : Port) (f : Frame) (s : State), s.Admits p .motionRead f →
    exec (.motionRead p f) s = .next (s.replied p f (reply .ok .motionRead
      (beInt 5 s.motion.acc.yaw ++ beInt 5 s.motion.acc.pitch ++ beInt 5 s.motion.acc.roll
        ++ beBytes 5 s.motion.limit.yaw ++ beBytes 5 s.motion.limit.pitch ++ beBytes 5 s.motion.limit.roll
        ++ beInt 2 s.motion.bias.yaw ++ beInt 2 s.motion.bias.pitch ++ beInt 2 s.motion.bias.roll
        ++ beBytes 2 s.motion.stillCount
        ++ (match s.motion.episode, s.motion.watch with
            | some e, _ => 1 :: beBytes 2 e.peak
            | none, some w => 2 :: beBytes 2 w.peak
            | none, none => [0, 0, 0])
        ++ beBytes 1 s.motion.history.length ++ s.motion.settings.enc))))
  ∧ (∀ (p : Port) (f : Frame) (l : Lens) (s : State), s.Admits p .lensSet f →
    l = { fx := clamp 1 4095 (field f.body 0 2), fy := clamp 1 4095 (field f.body 2 2)
          mx := min 8191 (field f.body 4 2), my := min 8191 (field f.body 6 2)
          mroll := min 2560 (field f.body 8 2) } →
    ∃ t : State, exec (.lensSet p f) s = .next (t.replied p f (reply .ok .lensSet l.enc))
      ∧ t = { s with frames := { s.frames with lens := l }, motion := { s.motion with
          limit := { yaw := l.mx * 2 ^ 24 / l.fx, pitch := l.my * 2 ^ 24 / l.fy, roll := l.mroll * 2 ^ 16 }
          acc := t.motion.acc } }
      ∧ t.motion.acc.yaw = max (-(t.motion.limit.yaw : Int)) (min t.motion.limit.yaw s.motion.acc.yaw)
      ∧ t.motion.acc.pitch = max (-(t.motion.limit.pitch : Int)) (min t.motion.limit.pitch s.motion.acc.pitch)
      ∧ t.motion.acc.roll = max (-(t.motion.limit.roll : Int)) (min t.motion.limit.roll s.motion.acc.roll))

/-! ### Frames and correction records (chapter 4) -/

/-- FRAME_START refuses a bad period or band count, then any state but IDLE; else it stores the clamped parameters,
starts FTRIG and opens frame 0; the state IDLE is taken with no current frame, as StepKeepsFrames has it. FRAME_STOP
abandons the frame and the pending bands and keeps the queue. CORR_READ removes up to 8 oldest records. FRAME_STATUS
reports (R61, R62, R77, R79). That FRAME_STOP leaves no current frame is read from log 20; that it leaves the period,
the width and the start of the STOPPED FTRIG as they were is the model's choice (log 8). -/
def Obligations.FrameRequests : Prop :=
  (∀ (p : Port) (f : Frame) (s : State), s.Admits p .frameStart f →
    (field f.body 0 4 < 4096 ∨ 1048576 < field f.body 0 4 ∨ field f.body 8 1 ∉ [1, 2, 4, 8, 16] →
      exec (.frameStart p f) s = .next (s.replied p f (reply .badValue .frameStart [])))
    ∧ (4096 ≤ field f.body 0 4 → field f.body 0 4 ≤ 1048576 → field f.body 8 1 ∈ [1, 2, 4, 8, 16] →
      (s.frames.state ≠ .idle →
        exec (.frameStart p f) s = .next (s.replied p f (reply .wrongState .frameStart [])))
      ∧ (∀ (x : FrameParams) (g : Generator), s.frames.state = .idle → s.frames.cur = none →
        x = { period := field f.body 0 4, width := clamp 1 255 (field f.body 4 4), bands := field f.body 8 1
              rCfg := clamp 1 (field f.body 0 4) (field f.body 9 4), window := clamp 1 (field f.body 0 4) (field f.body 13 4)
              watermark := clamp 1 64 (field f.body 17 1) } →
        g = { running := true, period := x.period, width := x.width, start := s.tick, staged := none
              output := .high } →
        exec (.frameStart p f) s = .next (({ s with
            ftrig := g
            frames := { s.frames with
              params := x, rEst := x.rCfg, n := 0, opened := true, state := .armed
              cur := some { trigger := s.tick, window := some (later s.tick x.window), sn := none
                            fenTaken := false } } }).replied p f (reply .ok .frameStart x.enc)))))
  ∧ (∀ (p : Port) (f : Frame) (s : State), s.Admits p .frameStop f →
    (s.frames.state = .idle → exec (.frameStop p f) s = .next (s.replied p f (reply .ok .frameStop [])))
    ∧ (s.frames.state ≠ .idle → s.ftrig.running = true → exec (.frameStop p f) s = .next (({ s with
        ftrig := { s.ftrig with running := false, staged := none, output := .low }
        frames := { s.frames with state := .idle, cur := none, bands := [] } }).replied p f
      (reply .ok .frameStop []))))
  ∧ (∀ (p : Port) (f : Frame) (s : State), s.Admits p .corrRead f →
    exec (.corrRead p f) s = .next (({ s with frames := { s.frames with
        queue := s.frames.queue.drop 8 } }).replied p f (reply .ok .corrRead
      (beBytes 1 (min 8 s.frames.queue.length) ++ (s.frames.queue.take 8).flatMap CorrRec.enc))))
  ∧ (∀ (p : Port) (f : Frame) (s : State), s.Admits p .frameStatus f →
    exec (.frameStatus p f) s = .next (s.replied p f (reply .ok .frameStatus
      ([s.frames.state.code] ++ beBytes 4 s.frames.n.toNat ++ encBool s.frames.opened ++ beBytes 4 s.frames.rEst
        ++ s.frames.params.enc ++ beBytes 1 s.frames.bands.length ++ beBytes 1 s.frames.queue.length
        ++ s.frames.lens.enc))))

/-- WINDOW_EXPIRY closes the window, and without S_n the frame is missed. A frame trigger closes an open window so,
advances n once a frame has been opened, and opens the frame. FST inside an open window gives S_n and places the
bands; elsewhere it is discarded. FEN once a frame gives R_est (R63 to R66). -/
def Obligations.Strobes : Prop :=
  (∀ (c : CurFrame) (s : State), s.store.vsys = true → s.frames.cur = some c → c.window = some s.tick →
    ∃ t, t = { s with frames := { s.frames with cur := some { c with window := none } } }
      ∧ exec .windowExpiry s = .next (if c.sn = none then t.raise .frameMissed else t))
  ∧ (∀ (c : CurFrame) (s : State), s.frames.cur = some c →
    ∃ t, t = { s with frames := { s.frames with
          n := if s.frames.opened then s.frames.n + 1 else s.frames.n, opened := true
          cur := some { trigger := s.tick, window := some (later s.tick s.frames.params.window), sn := none
                        fenTaken := false } } }
      ∧ s.frameTrigger = if c.window.isSome ∧ c.sn = none then t.raise .frameMissed else t)
  ∧ (∀ (c : CurFrame) (s : State), s.store.vsys = true → s.frames.cur = some c → s.frames.state ≠ .idle →
    c.window.isSome → c.sn = none → exec .fstCapture s = .next (({ s.emptied .fst with frames := { s.frames with
      state := .tracking, cur := some { c with sn := some s.tick } } }).placeBands s.tick))
  ∧ (∀ s : State, s.store.vsys = true →
    (s.frames.state = .idle ∨ s.frames.cur = none ∨ ∃ c ∈ s.frames.cur, c.window = none ∨ c.sn.isSome) →
    exec .fstCapture s = .next (s.emptied .fst))
  ∧ (∀ (c : CurFrame) (t : Tick) (s : State), s.store.vsys = true → s.frames.cur = some c →
    s.frames.state ≠ .idle → c.sn = some t → c.fenTaken = false →
    exec .fenCapture s = .next { s.emptied .fen with frames := { s.frames with
      cur := some { c with fenTaken := true }
      rEst := if 1 ≤ dist s.tick t ∧ dist s.tick t ≤ s.frames.params.period then dist s.tick t
              else s.frames.rEst } })
  ∧ (∀ s : State, s.store.vsys = true →
    (s.frames.state = .idle ∨ s.frames.cur = none ∨ ∃ c ∈ s.frames.cur, c.sn = none ∨ c.fenTaken = true) →
    exec .fenCapture s = .next (s.emptied .fen))

/-- The bands of a frame with S_n = T: band b at T + floor(R_est × (2b + 1) / (2N)) with its deadline 4 × P_imu
later, older bands forced out one at a time while fewer than N of the 64 places are free (R67, R68). An
examination forms the oldest pending band while the history covers it or its deadline has passed, and stops at
the first that is neither; BAND_DEADLINE_EXPIRY passes the deadlines due of its band and examines (R69). -/
def Obligations.BandsArePlacedAndExamined : Prop :=
  (∀ (T : Tick) (s : State),
    (∃ new : List Band, new.length = s.frames.params.bands
      ∧ (∀ b (h : b < new.length), ∃ at' : Tick,
        at' = later T (s.frames.rEst * (2 * b + 1) / (2 * s.frames.params.bands))
        ∧ new[b] = { frame := s.frames.n, index := b, time := at'
                     deadline := some (later at' (4 * s.link.settings.pImu)) })
      ∧ ∃ t, t = s.force (s.frames.bands.length + s.frames.params.bands - 64)
        ∧ t.frames.bands = s.frames.bands.drop (s.frames.bands.length + s.frames.params.bands - 64)
        ∧ s.placeBands T = ({ t with frames := { t.frames with bands := t.frames.bands ++ new } }).examine)
    ∧ s.force 0 = s
    ∧ (∀ (k : Nat) (b : Band) (rest : List Band), s.frames.bands = b :: rest →
      s.force (k + 1) = (({ s with frames := { s.frames with bands := rest } }).deliver
        (s.record b ((coverage s.motion.history b.time).getD (deadlineCase s.motion.history)))).force k))
  ∧ (∀ s : State, s.frames.bands = [] → s.examine = s)
  ∧ (∀ (b : Band) (rest : List Band) (s : State), s.frames.bands = b :: rest →
    (∀ x, coverage s.motion.history b.time = some x → s.examine
      = (({ s with frames := { s.frames with bands := rest } }).deliver (s.record b x)).examine)
    ∧ (coverage s.motion.history b.time = none → b.deadline = none → s.examine
      = (({ s with frames := { s.frames with bands := rest } }).deliver
          (s.record b (deadlineCase s.motion.history))).examine)
    ∧ (coverage s.motion.history b.time = none → b.deadline ≠ none → s.examine = s))
  ∧ (∀ (n : FrameNo) (i : Nat) (s : State), s.store.vsys = true →
    (∃ b ∈ s.frames.bands, b.frame = n ∧ b.index = i ∧ b.deadline = some s.tick) →
    ∃ bands : List Band, bands.length = s.frames.bands.length
      ∧ (∀ k (h : k < bands.length) (h' : k < s.frames.bands.length), bands[k] =
        (if s.frames.bands[k].frame = n ∧ s.frames.bands[k].index = i ∧ s.frames.bands[k].deadline = some s.tick
         then { s.frames.bands[k] with deadline := none } else s.frames.bands[k]))
      ∧ exec (.bandDeadlineExpiry n i) s
        = .next ({ s with frames := { s.frames with bands := bands } }).examine)

/-- What the history gives an instant t: an entry at t; the bracket of the newest entry before and the oldest after,
STALE when the later one is RESTART; the oldest entry with STALE when all lie after t; nothing when none is at
or after t; in the deadline case the newest entry with STALE, or NO_MOTION (R70 to R72). The record's shifts are
−nearest of the angle by the lens, held within the margins with CLAMPED. Delivered, it joins the queue, of a
full queue the oldest going and the next carrying DROPPED_BEFORE; CORR_READY is raised at the watermark; it
counts into an OPEN clip while the gate is open (R72 to R76, R78). -/
def Obligations.RecordsFromTheHistory : Prop :=
  (∀ (t : Tick) (pre post : List HistEntry) (e0 e1 : HistEntry),
    (e1.tick = t → (∀ e ∈ pre, e.tick ≠ t) → coverage (pre ++ e1 :: post) t = some
      { angle := e1.acc, stale := false, noMotion := false
        pinned := e1.pinned.yaw || e1.pinned.pitch || e1.pinned.roll })
    ∧ ((∀ e ∈ pre ++ [e0], atOrAfter e.tick t = false) → (∀ e ∈ e1 :: post, atOrAfter e.tick t = true ∧ e.tick ≠ t) →
      coverage (pre ++ e0 :: e1 :: post) t = some
        { angle :=
            { yaw := e0.acc.yaw + nearest ((e1.acc.yaw - e0.acc.yaw) * dist t e0.tick) (dist e1.tick e0.tick)
              pitch := e0.acc.pitch
                + nearest ((e1.acc.pitch - e0.acc.pitch) * dist t e0.tick) (dist e1.tick e0.tick)
              roll := e0.acc.roll + nearest ((e1.acc.roll - e0.acc.roll) * dist t e0.tick) (dist e1.tick e0.tick) }
          stale := e1.restart, noMotion := false
          pinned := (e0.pinned.yaw || e0.pinned.pitch || e0.pinned.roll)
            || (e1.pinned.yaw || e1.pinned.pitch || e1.pinned.roll) })
    ∧ ((∀ e ∈ e1 :: post, atOrAfter e.tick t = true ∧ e.tick ≠ t) → coverage (e1 :: post) t = some
      { angle := e1.acc, stale := true, noMotion := false
        pinned := e1.pinned.yaw || e1.pinned.pitch || e1.pinned.roll })
    ∧ ((∀ e ∈ pre, atOrAfter e.tick t = false) → coverage pre t = none)
    ∧ deadlineCase (pre ++ [e1]) =
      { angle := e1.acc, stale := true, noMotion := false
        pinned := e1.pinned.yaw || e1.pinned.pitch || e1.pinned.roll }
    ∧ deadlineCase [] =
      { angle := { yaw := 0, pitch := 0, roll := 0 }, stale := false, noMotion := true, pinned := false })
  ∧ (∀ (b : Band) (x : Found) (s : State) (dx dy droll : Int), dx = -(nearest (x.angle.yaw * s.frames.lens.fx) (2 ^ 24)) →
    dy = -(nearest (x.angle.pitch * s.frames.lens.fy) (2 ^ 24)) → droll = -(nearest x.angle.roll (2 ^ 16)) →
    s.record b x =
      { frame := b.frame, band := b.index, time := b.time, formed := s.tick
        dx := max (-(s.frames.lens.mx : Int)) (min s.frames.lens.mx dx)
        dy := max (-(s.frames.lens.my : Int)) (min s.frames.lens.my dy)
        droll := max (-(s.frames.lens.mroll : Int)) (min s.frames.lens.mroll droll)
        stale := x.stale, noMotion := x.noMotion, pinned := x.pinned
        clamped := decide (s.frames.lens.mx < dx.natAbs ∨ s.frames.lens.my < dy.natAbs
          ∨ s.frames.lens.mroll < droll.natAbs)
        shock := s.motion.episode.isSome, droppedBefore := false })
  ∧ (∀ (r : CorrRec) (s : State),
    (s.frames.queue.length < 64 → (s.deliver r).frames = { s.frames with queue := s.frames.queue ++ [r] })
    ∧ (∀ (o h : CorrRec) (rest : List CorrRec), s.frames.queue = o :: h :: rest → rest.length = 62 →
      (s.deliver r).frames
        = { s.frames with queue := { h with droppedBefore := true } :: (rest ++ [r]) })
    ∧ (s.deliver r).portA = (if s.frames.params.watermark ≤ (s.deliver r).frames.queue.length
      then (s.raise .corrReady).portA else s.portA)
    ∧ s.deliver r = { s with frames := (s.deliver r).frames, catalogue := (s.deliver r).catalogue
                             portA := (s.deliver r).portA }
    ∧ (s.store.gate = .closed ∨ (∀ y ∈ s.catalogue.clips, y.state ≠ .opened) →
      (s.deliver r).catalogue = s.catalogue)
    ∧ (∀ x : Clip, s.store.gate = .opened → s.catalogue.openClip = some x → (s.deliver r).catalogue =
      (s.mapClips fun y => if y.number = x.number then
          { y with
              staleBands := if r.stale ∨ r.noMotion then min 65535 (y.staleBands + 1) else y.staleBands
              pinnedBands := if r.pinned ∨ r.clamped then min 65535 (y.pinnedBands + 1) else y.pinnedBands }
        else y).catalogue))

/-! ### The clip catalogue (chapter 5) -/

/-- CARD_READ: on either port, whatever the gate and the policy, it answers OK with the card settings, the units in
use and free, the counts of records, the pending reservation or its absence and next_clip, and changes nothing
(R110). The answer goes through `State.replied`, which also sets the model's own outputs of the port (`sent`,
`busy` and the taking count, log 10 and 19). -/
def Obligations.CardReadReports : Prop :=
  Kind.cardRead.policyClass = none
  ∧ ∀ (p : Port) (l : Byte) (b : Began) (s : State) (used : Nat), s.store.vsys = true → (s.port p).met b ≠ .working →
    l.toNat = 0 → used = (s.catalogue.clips.map fun x => x.committed + x.reserved).sum →
    exec (.cardRead p { len := some l, body := [], began := b }) s
      = .next (s.replied p { len := some l, body := [], began := b } (reply .ok .cardRead
        (beBytes 4 s.catalogue.card.serial ++ beBytes 4 s.catalogue.card.capacity
          ++ encBool s.catalogue.card.loop ++ beBytes 2 s.catalogue.card.floor
          ++ beBytes 4 used ++ beBytes 4 (s.catalogue.card.capacity - used)
          ++ beBytes 1 s.catalogue.clips.length
          ++ beBytes 1 (s.catalogue.clips.filter fun x => x.state = .recycling).length
          ++ (match s.catalogue.reservation with
              | some u => 1 :: beBytes 4 u
              | none => [0, 0, 0, 0, 0])
          ++ beBytes 4 s.catalogue.nextClip)))

/-- CARD_SET: its five checks in order, then the four settings are replaced. FORMAT_CATALOGUE: CLIP_OPEN, then
GATE_CLOSED; else every record goes, the card settings become 0 and next_clip is kept (R83, R84). -/
def Obligations.CardRequests : Prop :=
  (∀ (p : Port) (f : Frame) (card : Card) (s : State), s.Admits p .cardSet f →
    card = { serial := field f.body 0 4, capacity := field f.body 4 4, loop := flagAt f.body 8
             floor := field f.body 9 2 } →
    exec (.cardSet p f) s = .next (
      if 16777216 < card.capacity ∨ 1 < field f.body 8 1 then s.replied p f (reply .badValue .cardSet [])
      else if ∃ x ∈ s.catalogue.clips, x.state = .opened then s.replied p f (reply .clipOpen .cardSet [])
      else if s.catalogue.clips ≠ [] ∧ card.serial ≠ s.catalogue.card.serial then
        s.replied p f (reply .wrongState .cardSet [])
      else if s.store.gate = .closed then s.replied p f (reply .gateClosed .cardSet [])
      else if card.capacity < s.catalogue.inUse then s.replied p f (reply .badValue .cardSet [])
      else ({ s with catalogue := { s.catalogue with card := card } }).replied p f
        (reply .ok .cardSet (beBytes 4 card.serial ++ beBytes 4 card.capacity ++ encBool card.loop
          ++ beBytes 2 card.floor ++ beBytes 4 (card.capacity - s.catalogue.inUse)))))
  ∧ (∀ (p : Port) (f : Frame) (s : State), s.Admits p .formatCatalogue f →
    exec (.formatCatalogue p f) s = .next (
      if ∃ x ∈ s.catalogue.clips, x.state = .opened then s.replied p f (reply .clipOpen .formatCatalogue [])
      else if s.store.gate = .closed then s.replied p f (reply .gateClosed .formatCatalogue [])
      else ({ s with catalogue := { s.catalogue with
          clips := [], card := { serial := 0, capacity := 0, loop := false, floor := 0 } } }).replied p f
        (reply .ok .formatCatalogue [])))

/-- CLIP_OPEN, CLIP_PROGRESS and CLIP_CLOSE: their checks in order, the record created, the units moved from
reserved to committed, the record CLOSED (R92, R93, R97, R98). -/
def Obligations.ClipRecording : Prop :=
  (∀ (p : Port) (f : Frame) (x : Clip) (s : State), s.Admits p .clipOpen f →
    x = { number := s.catalogue.nextClip, state := .opened, protection := .none
          start := { epoch := s.store.epoch, tick := s.tick }
          startFrame := if s.frames.state = .idle then none else some s.frames.n
          ending := none, committed := 0, reserved := 0, frameCount := none, staleBands := 0, pinnedBands := 0
          marks := [], truncated := false, cutCause := none } →
    exec (.clipOpen p f) s = .next (
      if s.catalogue.card.capacity = 0 ∨ (∃ y ∈ s.catalogue.clips, y.state = .opened) then
        s.replied p f (reply .wrongState .clipOpen [])
      else if s.store.gate = .closed then s.replied p f (reply .gateClosed .clipOpen [])
      else if 128 ≤ s.catalogue.clips.length then
        match s.catalogue.select .record with
        | some (victims, c) =>
          if s.catalogue.card.loop then ({ s with catalogue := c }).replied p f
            (reply .recycleNeeded .clipOpen (beBytes 1 victims.length ++ victims.flatMap (beBytes 4)))
          else s.replied p f (reply .full .clipOpen [])
        | none => s.replied p f (reply .full .clipOpen [])
      else if s.catalogue.nextClip = 4294967295 then s.replied p f (reply .full .clipOpen [])
      else ({ s with catalogue := { s.catalogue with
          clips := s.catalogue.clips ++ [x], nextClip := s.catalogue.nextClip + 1 } }).replied p f
        (reply .ok .clipOpen (beBytes 4 x.number ++ encStamp x.start))))
  ∧ (∀ (p : Port) (f : Frame) (n : Nat) (s : State), s.Admits p .clipProgress f → n = field f.body 0 4 →
    (16777216 < n → exec (.clipProgress p f) s = .next (s.replied p f (reply .badValue .clipProgress [])))
    ∧ (n ≤ 16777216 → s.catalogue.openClip = none →
      exec (.clipProgress p f) s = .next (s.replied p f (reply .wrongState .clipProgress [])))
    ∧ (∀ x : Clip, n ≤ 16777216 → s.catalogue.openClip = some x → exec (.clipProgress p f) s = .next (
      if s.store.gate = .closed then s.replied p f (reply .gateClosed .clipProgress [])
      else if n < x.committed ∨ x.committed + x.reserved < n then
        s.replied p f (reply .badValue .clipProgress [])
      else (s.mapClips fun y => if y.number = x.number then
          { y with committed := n, reserved := x.committed + x.reserved - n } else y).replied p f
        (reply .ok .clipProgress (beBytes 4 n ++ beBytes 4 (x.committed + x.reserved - n))))))
  ∧ (∀ (p : Port) (f : Frame) (s : State), s.Admits p .clipClose f →
    (s.catalogue.openClip = none →
      exec (.clipClose p f) s = .next (s.replied p f (reply .wrongState .clipClose [])))
    ∧ (∀ (x : Clip) (now : Stamp) (t : State), s.catalogue.openClip = some x →
      now = { epoch := s.store.epoch, tick := s.tick } →
      (t = s.mapClips fun y => if y.number = x.number then { y with
        state := .closed, ending := some now, frameCount := some (field f.body 0 4), reserved := 0 } else y) →
      exec (.clipClose p f) s = .next (
        if s.store.gate = .closed then s.replied p f (reply .gateClosed .clipClose [])
        else ({ t with catalogue := { t.catalogue with reservation := none } }).replied p f
          (reply .ok .clipClose (beBytes 4 x.number ++ beBytes 4 x.committed ++ encStamp now)))))

/-- Selection: the candidates are the CLOSED and CUT records with protection NONE; a need that all of them would not
meet selects none; else the shortest run of first candidates that meets it, of at most 8, becomes RECYCLING
(R90, R91). CLIP_RESERVE: its checks; granted when the free units less u are at least the floor; else, in loop
mode, the selection for u with the reservation pending, or FULL. A re-evaluation grants, waits while a record is
RECYCLING, selects, or drops it, each with its notice (R94 to R96). -/
def Obligations.SelectionAndReservations : Prop :=
  (∀ (c : Catalogue) (need : Need) (cands recycling : List Clip) (enough : List Clip → Prop),
    (cands = c.clips.filter fun x => (x.state = .closed || x.state = .cut) && x.protection = .none) →
    (recycling = c.clips.filter fun x => x.state = .recycling) →
    (enough = fun sel => match need with
      | .record => c.clips.length ≤ 127 + recycling.length + sel.length
      | .units u => u + c.card.floor ≤ (c.card.capacity - c.inUse)
          + (recycling.map fun x => x.committed + x.reserved).sum + (sel.map fun x => x.committed + x.reserved).sum) →
    (¬ enough cands → c.select need = none)
    ∧ (enough cands → ∃ k, k ≤ 8 ∧ k ≤ cands.length ∧ (enough (cands.take k) ∨ k = 8)
      ∧ (∀ j < k, ¬ enough (cands.take j))
      ∧ ∃ victims recycle, victims = (cands.take k).map Clip.number
        ∧ (recycle = fun x : Clip =>
            if x.number ∈ victims then { x with state := .recycling, cutCause := none } else x)
        ∧ c.select need = some (victims, { c with clips := c.clips.map recycle })))
  ∧ (∀ (p : Port) (f : Frame) (u : Nat) (s : State), s.Admits p .clipReserve f → u = field f.body 0 4 →
    (u = 0 ∨ 65535 < u → exec (.clipReserve p f) s = .next (s.replied p f (reply .badValue .clipReserve [])))
    ∧ (1 ≤ u → u ≤ 65535 → s.catalogue.openClip = none ∨ s.catalogue.reservation ≠ none →
      exec (.clipReserve p f) s = .next (s.replied p f (reply .wrongState .clipReserve [])))
    ∧ (∀ x : Clip, 1 ≤ u → u ≤ 65535 → s.catalogue.openClip = some x → s.catalogue.reservation = none →
      (s.store.gate = .closed →
        exec (.clipReserve p f) s = .next (s.replied p f (reply .gateClosed .clipReserve [])))
      ∧ (∀ t : State, s.store.gate = .opened → s.catalogue.card.floor + u ≤ s.catalogue.free →
        (t = s.mapClips fun y => if y.number = x.number then { y with reserved := y.reserved + u } else y) →
        exec (.clipReserve p f) s = .next (t.replied p f (reply .ok .clipReserve
          (beBytes 4 x.committed ++ beBytes 4 (x.reserved + u) ++ beBytes 4 t.catalogue.free))))
      ∧ (s.store.gate = .opened → s.catalogue.free < s.catalogue.card.floor + u →
        exec (.clipReserve p f) s = .next (
          match s.catalogue.select (.units u) with
          | some (victims, c) =>
            if s.catalogue.card.loop then ({ s with catalogue := { c with reservation := some u } }).replied p f
              (reply .recycleNeeded .clipReserve
                (beBytes 1 victims.length ++ victims.flatMap (beBytes 4) ++ beBytes 4 u))
            else s.replied p f (reply .full .clipReserve [])
          | none => s.replied p f (reply .full .clipReserve [])))))
  ∧ (∀ (u : Nat) (x : Clip) (s t : State), s.catalogue.reservation = some u → s.catalogue.openClip = some x →
    (t = s.mapClips fun y => if y.number = x.number then { y with reserved := y.reserved + u } else y) →
    s.reevaluate =
      if s.catalogue.card.floor + u ≤ s.catalogue.free then
        ({ t with catalogue := { t.catalogue with reservation := none } }).raise .reserveGranted
      else if ∃ y ∈ s.catalogue.clips, y.state = .recycling then s
      else match s.catalogue.select (.units u) with
        | some (_, c) => ({ s with catalogue := c }).raise .recycle
        | none => ({ s with catalogue := { s.catalogue with reservation := none } }).raise .reserveFailed)
  ∧ (∀ s : State, s.catalogue.reservation = none → s.reevaluate = s)

/-- CLIP_DELETED, CLIP_PROTECT, CLIP_UNPROTECT and CLIP_FORGET: BAD_VALUE for a number that none can have,
NOT_FOUND, the refusal of the record's state, GATE_CLOSED, then their change, with the re-evaluation before the
response of all but CLIP_PROTECT (R100 to R103). -/
def Obligations.ClipUpkeep : Prop :=
  (∀ (p : Port) (f : Frame) (n : Nat) (s : State), n = field f.body 0 4 → n = 0 ∨ n = 4294967295 →
    (s.Admits p .clipDeleted f →
      exec (.clipDeleted p f) s = .next (s.replied p f (reply .badValue .clipDeleted [])))
    ∧ (s.Admits p .clipProtect f →
      exec (.clipProtect p f) s = .next (s.replied p f (reply .badValue .clipProtect [])))
    ∧ (s.Admits p .clipUnprotect f →
      exec (.clipUnprotect p f) s = .next (s.replied p f (reply .badValue .clipUnprotect [])))
    ∧ (s.Admits p .clipForget f →
      exec (.clipForget p f) s = .next (s.replied p f (reply .badValue .clipForget []))))
  ∧ (∀ (p : Port) (f : Frame) (n : Nat) (s : State), n = field f.body 0 4 → n ≠ 0 → n ≠ 4294967295 →
    s.catalogue.clip n = none →
    (s.Admits p .clipDeleted f →
      exec (.clipDeleted p f) s = .next (s.replied p f (reply .notFound .clipDeleted [])))
    ∧ (s.Admits p .clipProtect f →
      exec (.clipProtect p f) s = .next (s.replied p f (reply .notFound .clipProtect [])))
    ∧ (s.Admits p .clipUnprotect f →
      exec (.clipUnprotect p f) s = .next (s.replied p f (reply .notFound .clipUnprotect [])))
    ∧ (s.Admits p .clipForget f →
      exec (.clipForget p f) s = .next (s.replied p f (reply .notFound .clipForget []))))
  ∧ (∀ (p : Port) (f : Frame) (n : Nat) (x : Clip) (s gone : State), n = field f.body 0 4 → n ≠ 0 →
    n ≠ 4294967295 → s.catalogue.clip n = some x →
    gone = ({ s.flying p .clipDeleted f with catalogue := { s.catalogue with
      clips := s.catalogue.clips.filter fun y => y.number ≠ n } } : State).reevaluate →
    (s.Admits p .clipDeleted f → exec (.clipDeleted p f) s = .next (
      if x.state ≠ .recycling then s.replied p f (reply .wrongState .clipDeleted [])
      else if s.store.gate = .closed then s.replied p f (reply .gateClosed .clipDeleted [])
      else gone.answer p (reply .ok .clipDeleted (beBytes 4 gone.catalogue.free)))))
  ∧ (∀ (p : Port) (f : Frame) (n : Nat) (x : Clip) (prot : Protection) (s : State), n = field f.body 0 4 → n ≠ 0 →
    n ≠ 4294967295 → s.catalogue.clip n = some x → (prot = if x.protection = .crash then .crash else .user) →
    s.Admits p .clipProtect f → exec (.clipProtect p f) s = .next (
      if x.state = .recycling then s.replied p f (reply .tooLate .clipProtect [])
      else if s.store.gate = .closed then s.replied p f (reply .gateClosed .clipProtect [])
      else (s.mapClips fun y => if y.number = n then { y with protection := prot } else y).replied p f
        (reply .ok .clipProtect [prot.code])))
  ∧ (∀ (p : Port) (f : Frame) (n : Nat) (x : Clip) (s : State), n = field f.body 0 4 → n ≠ 0 →
    n ≠ 4294967295 → s.catalogue.clip n = some x →
    s.Admits p .clipUnprotect f → exec (.clipUnprotect p f) s = .next (
      if x.state = .recycling then s.replied p f (reply .wrongState .clipUnprotect [])
      else if s.store.gate = .closed then s.replied p f (reply .gateClosed .clipUnprotect [])
      else (((s.flying p .clipUnprotect f).mapClips fun y =>
          if y.number = n then { y with protection := .none } else y).reevaluate).answer p
        (reply .ok .clipUnprotect [])))
  ∧ (∀ (p : Port) (f : Frame) (n : Nat) (x : Clip) (s gone : State), n = field f.body 0 4 → n ≠ 0 →
    n ≠ 4294967295 → s.catalogue.clip n = some x →
    gone = ({ s.flying p .clipForget f with catalogue := { s.catalogue with
      clips := s.catalogue.clips.filter fun y => y.number ≠ n } } : State).reevaluate →
    s.Admits p .clipForget f → exec (.clipForget p f) s = .next (
      if x.state = .opened ∨ x.state = .recycling ∨ x.protection ≠ .none then
        s.replied p f (reply .wrongState .clipForget [])
      else if s.store.gate = .closed then s.replied p f (reply .gateClosed .clipForget [])
      else gone.answer p (reply .ok .clipForget (beBytes 4 gone.catalogue.free))))

/-- CLIP_READ answers the record by its layout, or BAD_VALUE or NOT_FOUND. CLIP_LIST answers the first 16 numbers,
from the start given, of the records its filter takes, with an indication that there are more (R108, R109). The
widths of the fields are chapter 11's, with log 13 where it is silent. -/
def Obligations.ClipReading : Prop :=
  (∀ (p : Port) (f : Frame) (n : Nat) (s : State), s.Admits p .clipRead f → n = field f.body 0 4 →
    exec (.clipRead p f) s = .next (s.replied p f (
      if n = 0 ∨ n = 4294967295 then reply .badValue .clipRead []
      else match s.catalogue.clip n with
        | none => reply .notFound .clipRead []
        | some x => reply .ok .clipRead x.enc)))
  ∧ (∀ (p : Port) (f : Frame) (s : State), s.Admits p .clipList f →
    (7 < field f.body 4 1 → exec (.clipList p f) s = .next (s.replied p f (reply .badValue .clipList [])))
    ∧ (∀ (keep : Clip → Bool) (found : List Clip), field f.body 4 1 ≤ 7 →
      (∀ x, keep x = true ↔ field f.body 4 1 = 0
        ∨ (field f.body 4 1 = 1 ∧ x.state = .opened) ∨ (field f.body 4 1 = 2 ∧ x.state = .closed)
        ∨ (field f.body 4 1 = 3 ∧ x.state = .cut) ∨ (field f.body 4 1 = 4 ∧ x.state = .recycling)
        ∨ (field f.body 4 1 = 5 ∧ x.protection = .none) ∨ (field f.body 4 1 = 6 ∧ x.protection = .user)
        ∨ (field f.body 4 1 = 7 ∧ x.protection = .crash)) →
      (found = s.catalogue.clips.filter fun x => decide (field f.body 0 4 ≤ x.number) && keep x) →
      exec (.clipList p f) s = .next (s.replied p f (reply .ok .clipList
        (beBytes 1 (min 16 found.length) ++ [if 16 < found.length then 1 else 0]
          ++ (found.take 16).flatMap fun x => beBytes 4 x.number)))))

/-! ### Marks (chapter 6) -/

/-- MARK_USER: WRONG_STATE, GATE_CLOSED, FULL, else a USER mark on the OPEN clip; MARK_READ answers one mark. A mark
is inserted after those of its time. Without room it takes the place of the clip's lowest-peak SHOCK mark if it
is a CRASH mark or harder, and the record is marked truncated either way (R113 to R119, R121). -/
def Obligations.Marks : Prop :=
  (∀ (p : Port) (f : Frame) (s : State), s.Admits p .markUser f →
    (s.catalogue.openClip = none → exec (.markUser p f) s = .next (s.replied p f (reply .wrongState .markUser [])))
    ∧ (∀ (x : Clip) (m : Mark), s.catalogue.openClip = some x →
      m = { kind := .user, time := { epoch := s.store.epoch, tick := s.tick }, peak := none, band := s.wheel.band } →
      exec (.markUser p f) s = .next (
        if s.store.gate = .closed then s.replied p f (reply .gateClosed .markUser [])
        else if 16 ≤ x.marks.length ∨ 256 ≤ s.catalogue.poolSize then s.replied p f (reply .full .markUser [])
        else (s.mapClips fun y => if y.number = x.number then { y with marks := insertMark y.marks m } else y).replied
          p f (reply .ok .markUser (beBytes 4 x.number ++ beBytes 1 (markIndex x.marks m) ++ encStamp m.time)))))
  ∧ (∀ (p : Port) (f : Frame) (n i : Nat) (s : State), s.Admits p .markRead f → n = field f.body 0 4 →
    i = field f.body 4 1 → exec (.markRead p f) s = .next (s.replied p f (
      if n = 0 ∨ n = 4294967295 ∨ 15 < i then reply .badValue .markRead []
      else match s.catalogue.clip n with
        | none => reply .notFound .markRead []
        | some x => match x.marks[i]? with
          | none => reply .notFound .markRead []
          | some m => reply .ok .markRead (m.enc n ++ beBytes 1 x.marks.length ++ encBool x.truncated))))
  ∧ (∀ (ms : List Mark) (m : Mark), ∃ before after, ms = before ++ after
    ∧ insertMark ms m = before ++ m :: after ∧ markIndex ms m = before.length
    ∧ (∀ y ∈ before, atOrAfter m.time.tick y.time.tick = true)
    ∧ (∀ y ∈ after.head?, atOrAfter m.time.tick y.time.tick = false))
  ∧ (∀ (c : Catalogue) (m : Mark) (x : Clip), x.marks.length < 16 → c.poolSize < 256 →
    c.markClip m x = { x with marks := insertMark x.marks m })
  ∧ (∀ (c : Catalogue) (m : Mark) (x : Clip), 16 ≤ x.marks.length ∨ 256 ≤ c.poolSize →
    ((∀ y ∈ x.marks, y.kind ≠ .shock) → c.markClip m x = { x with truncated := true })
    ∧ (∀ i (h : i < x.marks.length), x.marks[i].kind = .shock →
      (∀ j (h' : j < x.marks.length), x.marks[j].kind = .shock →
        x.marks[i].peak.getD 0 < x.marks[j].peak.getD 0
        ∨ (x.marks[i].peak.getD 0 = x.marks[j].peak.getD 0 ∧ i ≤ j)) →
      c.markClip m x = { x with
        truncated := true
        marks := if m.kind = .crash ∨ x.marks[i].peak.getD 0 < m.peak.getD 0
          then insertMark (x.marks.eraseIdx i) m else x.marks }))

/-- A crash event: with the gate closed nothing is protected or named; with a clip OPEN it and a predecessor that is
not RECYCLING take CRASH protection; with none OPEN the newest record does, if it is CLOSED or CUT and ended in
this epoch within 10,485,760 ticks of the episode's start, or was closed in this very tick; the record so chosen is
named and marked (R105 to R107, R115, R122). A shock event marks the OPEN clip while the gate is open (R114). A found crash
ends the watch, protects, marks and raises CRASH on both ports (R55). That the record closed in the crash's own tick
qualifies beyond R106's bound too is read from log 31. -/
def Obligations.ShockAndCrashEvents : Prop :=
  (∀ (start : Tick) (s : State), s.catalogue.Ok →
    (s.store.gate = .closed → s.crashProtect start = (s, none))
    ∧ (∀ x ∈ s.catalogue.clips, s.store.gate = .opened → x.state = .opened →
      ∃ protect : Clip → Bool,
        (∀ y ∈ s.catalogue.clips, protect y = true ↔ y.state ≠ .recycling ∧ (y.number = x.number
          ∨ (y.number < x.number ∧ ∀ z ∈ s.catalogue.clips, z.number < x.number → z.number ≤ y.number)))
        ∧ s.crashProtect start
          = (s.mapClips fun y => if protect y then { y with protection := .crash } else y, some x.number))
    ∧ (s.catalogue.clips = [] → s.crashProtect start = (s, none))
    ∧ (∀ x ∈ s.catalogue.clips, s.store.gate = .opened → (∀ y ∈ s.catalogue.clips, y.state ≠ .opened) →
      (∀ y ∈ s.catalogue.clips, y.number ≤ x.number) →
      ((x.state = .closed ∨ x.state = .cut) ∧ (∃ e ∈ x.ending, e.epoch = s.store.epoch
        ∧ (dist e.tick start ≤ 10485760 ∨ dist start e.tick ≤ 10485760
          ∨ (x.state = .closed ∧ e.tick = s.tick))) →
        s.crashProtect start = (s.mapClips fun y =>
          if y.number = x.number then { y with protection := .crash } else y, some x.number))
      ∧ (¬ ((x.state = .closed ∨ x.state = .cut) ∧ (∃ e ∈ x.ending, e.epoch = s.store.epoch
        ∧ (dist e.tick start ≤ 10485760 ∨ dist start e.tick ≤ 10485760
          ∨ (x.state = .closed ∧ e.tick = s.tick)))) →
        s.crashProtect start = (s, none))))
  ∧ (∀ (start : Tick) (peak : Nat) (band : Fin 4) (x : Clip) (m : Mark) (s : State), s.catalogue.openClip = some x →
    m = { kind := .shock, time := { epoch := s.store.epoch, tick := start }, peak := some peak, band := band } →
    s.shockMark start peak band = if s.store.gate = .closed then s else
      s.mapClips fun y => if y.number = x.number then s.catalogue.markClip m y else y)
  ∧ (∀ (start : Tick) (peak : Nat) (band : Fin 4) (s : State), s.catalogue.openClip = none →
    s.shockMark start peak band = s)
  ∧ (∀ (start : Tick) (peak n : Nat) (m : Mark) (s : State),
    m = { kind := .crash, time := { epoch := s.store.epoch, tick := start }, peak := some peak
          band := s.wheel.band } →
    s.crashMark none start peak = s
    ∧ s.crashMark (some n) start peak
      = s.mapClips fun y => if y.number = n then s.catalogue.markClip m y else y)
  ∧ (∀ (w : Watch) (s : State), s.motion.watch = some w →
    (w.run < 2048 → s.crashCheck = s)
    ∧ (2048 ≤ w.run → ∃ t named,
      (t, named) = ({ s with motion := { s.motion with watch := none } } : State).crashProtect w.start
      ∧ s.crashCheck = (t.crashMark named w.start w.peak).raise .crash))

/-! ### The Retained Store (chapter 7) -/

/-- VSYS_LOSS makes VSYS absent and changes nothing else; RETENTION_LOSS, while VSYS is absent, clears the latch.
The comparator's fall closes the gate; its rise opens it except in SHUTDOWN (R124, R125, R131, R132). That VSYS_LOSS
leaves the unpowered blocks and pins as stored, and that RETENTION_LOSS acts only while VSYS is absent, is the
model's choice (log 5). -/
def Obligations.SupplyLossAndGate : Prop :=
  ∀ s : State,
    (s.store.vsys = true → exec .vsysLoss s = .next { s with store := { s.store with vsys := false } })
    ∧ (s.store.vsys = false → exec .retentionLoss s = .next { s with store := { s.store with latch := false } })
    ∧ (s.store.vsys = true → s.store.comparator = .high → exec .comparatorFall s
      = .next { s with store := { s.store with comparator := .low, gate := .closed } })
    ∧ (s.store.vsys = true → s.store.comparator = .low → s.supply.state ≠ .shutdown → exec .comparatorRise s
      = .next { s with store := { s.store with comparator := .high, gate := .opened } })
    ∧ (s.store.vsys = true → s.store.comparator = .low → s.supply.state = .shutdown → exec .comparatorRise s
      = .next { s with store := { s.store with comparator := .high } })

/-- POR: every block takes its POR values; comparator and gate follow VSYS; with the latch SET the epoch goes up by
one, an OPEN clip is sealed UNSEALED with its start as its end, and the rest of the retained items stays; with
the latch CLEAR they are initialised; the recovery cause is set and RECOVERY raised on Port B alone (R126 to
R132). A POR that comes while VSYS is present is taken as any other: the model's choice (log 5). The period, the width
and the start of the two STOPPED generators, 0 here, are log 8's; the taking counts, the outputs and the record
`earlier`, begun anew here, are log 10's, log 19's and log 1's. -/
def Obligations.PowerOnReset : Prop :=
  ∀ (v : Nat) (l : Level) (s : State), ∃ t : State, exec (.por v l) s = .next t
    ∧ t = { State.reset with
        catalogue := t.catalogue, store := t.store, qualifier := { raw := l, qualified := l, change := none }
        pending := s.pending }
    ∧ t.store.vsys = true ∧ t.store.latch = true
    ∧ (3100 < v → t.store.comparator = .high ∧ t.store.gate = .opened)
    ∧ (v ≤ 3100 → t.store.comparator = .low ∧ t.store.gate = .closed)
    ∧ (s.store.latch = false → t.catalogue = State.reset.catalogue ∧ t.store.epoch = 0 ∧ t.store.cut = none
      ∧ t.store.cause = .lost)
    ∧ (s.store.latch = true → t.store.epoch.toNat = (s.store.epoch.toNat + 1) % 65536
      ∧ (s.catalogue.openClip = none → t.catalogue = s.catalogue ∧ t.store.cut = s.store.cut
        ∧ t.store.cause = if s.store.cut.isSome then .cutPresent else .intact)
      ∧ (∀ x : Clip, s.catalogue.openClip = some x → t.store.cause = .cutPresent
        ∧ t.store.cut = some { number := x.number, committed := x.committed, time := x.start, vbat := none
                               charge := none, cause := .unsealed }
        ∧ ∃ sealing : Clip → Clip,
          (sealing = fun y => if y.number = x.number then { y with
            state := .cut, cutCause := some .unsealed, ending := some x.start, reserved := 0 } else y)
          ∧ t.catalogue = { s.catalogue with clips := s.catalogue.clips.map sealing, reservation := none }))

/-- A seal with an OPEN clip makes it CUT as of now, drops a pending reservation, writes the cut record with the
charge state and the latest VBAT, and raises SEALED; with none it changes no record. HOLD_EXPIRED and HARD_CUT
close the gate, FORCED leaves it (R99, R134 to R136). RECOVERY_READ and RECOVERY_CLEAR (R138, R139). The codes
of the recovery cause are read from log 12. -/
def Obligations.SealAndRecovery : Prop :=
  (∀ (cause : CutCause) (gate : Gate) (s : State), cause ≠ .unsealed →
    (gate = if cause = .forced then s.store.gate else .closed) →
    (s.catalogue.openClip = none → s.seal cause = { s with store := { s.store with gate := gate } })
    ∧ (∀ (x : Clip) (now : Stamp) (t : State), s.catalogue.openClip = some x →
      now = { epoch := s.store.epoch, tick := s.tick } →
      (t = s.mapClips fun y => if y.number = x.number then { y with
        state := .cut, cutCause := some cause, ending := some now, reserved := 0 } else y) →
      s.seal cause = ({ t with
        catalogue := { t.catalogue with reservation := none }
        store := { t.store with
          gate := gate
          cut := some { number := x.number, committed := x.committed, time := now
                        vbat := s.supply.table.map MeasTable.vbat, charge := some s.charge.state
                        cause := cause } } }).raise .sealed))
  ∧ (∀ (p : Port) (f : Frame) (s : State), s.Admits p .recoveryRead f →
    exec (.recoveryRead p f) s = .next (s.replied p f (reply .ok .recoveryRead
      ([s.store.cause.code] ++ encBool s.store.latch ++ beBytes 2 s.store.epoch.toNat ++ [s.store.gate.code]
        ++ encLevel s.store.comparator
        ++ (match s.store.cut with
            | some c => 1 :: c.enc
            | none => List.replicate 22 0)))))
  ∧ (∀ (p : Port) (f : Frame) (n : Nat) (s : State), s.Admits p .recoveryClear f → n = field f.body 0 4 →
    exec (.recoveryClear p f) s = .next (
      if n = 0 ∨ n = 4294967295 then s.replied p f (reply .badValue .recoveryClear [])
      else match s.store.cut with
        | none => s.replied p f (reply .notFound .recoveryClear [])
        | some c =>
          if c.number ≠ n then s.replied p f (reply .wrongState .recoveryClear [])
          else if s.store.gate = .closed then s.replied p f (reply .gateClosed .recoveryClear [])
          else ({ s with store := { s.store with cut := none } }).replied p f (reply .ok .recoveryClear [])))

/-! ### Supply and rails (chapter 8) -/

/-- RAIL_ON: its checks in order, then ON at once with MRAIL_PG high, else RAMPING in flight with a timeout of
131,072 ticks. RAIL_OFF: its checks, then a forced seal of an OPEN clip, the rail off, OK. MRAIL_PG_RISE ends a
ramp ON, RAMP_TIMEOUT ends it off (R152 to R154). The rail going off: MRAIL_EN low, the class 0, the effects of
FRAME_STOP with the queue emptied, Port A's slot emptied; a ramp's RAIL_ON gets its answer after that; the rest
stays (R80, R153, R155). A request of Port A in flight then is abandoned: a TIME_PAIR disarms its channel, an
IMU_ACCESS leaves the queue and its transfer, if on the bus, goes on (R10, R36, R193). The empty bodies of a RAIL_ON
that ends TIMEOUT or WRONG_STATE, and the body of the OK of one that finds MRAIL_PG already high, are log 14's; that
no frame is current after the rail goes off is read from log 20; the record `earlier` is log 1's. -/
def Obligations.MediaRail : Prop :=
  (∀ (p : Port) (f : Frame) (pg : Level) (s : State), s.Admits p .railOn f →
    exec (.railOn p f pg) s = .next (
      if s.supply.state ≠ .normal then s.replied p f (reply .wrongState .railOn [])
      else if s.supply.rail = .on then s.replied p f (reply .ok .railOn [2])
      else if s.supply.rail ≠ .off then s.replied p f (reply .wrongState .railOn [])
      else if s.supply.input = .absent ∧ (∀ m ∈ s.supply.table, m.vbat < s.supply.settings.vStart) then
        s.replied p f (reply .lowBattery .railOn [])
      else if pg = .high then ({ s with supply := { s.supply with rail := .on, ramp := none } }).replied p f
        (reply .ok .railOn [2])
      else { s.flying p .railOn f with supply := { s.supply with
        rail := .ramping { port := p, taking := (s.port p).takings + 1 }
        ramp := some (later s.tick 131072) } }))
  ∧ (∀ (p : Port) (f : Frame) (s : State), s.Admits p .railOff f →
    (1 < field f.body 0 1 → exec (.railOff p f) s = .next (s.replied p f (reply .badValue .railOff [])))
    ∧ (∀ x : Clip, field f.body 0 1 = 0 → s.catalogue.openClip = some x →
      exec (.railOff p f) s = .next (s.replied p f (reply .clipOpen .railOff [])))
    ∧ (field f.body 0 1 ≤ 1 → s.catalogue.openClip = none → exec (.railOff p f) s
      = .next (((s.flying p .railOff f).railGoesOff (some .wrongState)).answer p (reply .ok .railOff [0])))
    ∧ (∀ x : Clip, field f.body 0 1 = 1 → s.catalogue.openClip = some x → exec (.railOff p f) s
      = .next ((((s.flying p .railOff f).seal .forced).railGoesOff (some .wrongState)).answer p
          (reply .ok .railOff [0]))))
  ∧ (∀ s : State, s.store.vsys = true →
    (∀ (t : Ticket) (k : Byte), s.supply.rail = .ramping t → (s.port t.port).slot = .working k t.taking →
      exec .mrailPgRise s = .next (({ s with supply := { s.supply with rail := .on, ramp := none } }).finish
        t.port { status := .ok, kind := k, body := [2] }))
    ∧ (s.supply.rail.isRamping = false → exec .mrailPgRise s = .next s)
    ∧ (s.supply.ramp = some s.tick → exec .rampTimeout s = .next (s.railGoesOff (some .timeout))))
  ∧ ((∀ (x : Option Status) (s : State), s.supply.rail = .off → s.railGoesOff x = s)
  ∧ ∀ (x : Status) (s t : State), s.supply.rail ≠ .off → t = s.railGoesOff (some x) →
    t = { s with supply := t.supply, charge := t.charge, frames := t.frames, ftrig := t.ftrig, pairA := t.pairA
                 link := { s.link with queue := t.link.queue }, portA := t.portA, portB := t.portB }
    ∧ t.supply = { s.supply with rail := .off, ramp := none } ∧ t.supply.mrailEn = .low
    ∧ t.charge = { s.charge with cls := 0 }
    ∧ (s.frames.state = .idle → t.frames = { s.frames with queue := [] } ∧ t.ftrig = s.ftrig)
    ∧ (s.frames.state ≠ .idle → t.frames = { s.frames with state := .idle, cur := none, bands := [], queue := [] }
      ∧ t.ftrig.running = false ∧ (s.ftrig.running = true → t.ftrig.output = .low ∧ t.ftrig.staged = none))
    ∧ (∀ k n, s.portA.slot = .working k n →
      t.pairA = (if s.pairA.armed = some n then { armed := none, timeout := none } else s.pairA)
      ∧ t.link.queue = s.link.queue.filter fun y => decide (y.ticket ≠ { port := .a, taking := n }))
    ∧ (s.portA.slot.state ≠ .working → t.pairA = s.pairA ∧ t.link.queue = s.link.queue)
    ∧ (s.supply.rail = .on → t.portA.earlier = {
        working := s.portA.earlier.working || decide (s.portA.slot.state = .working)
        answered := s.portA.earlier.answered || decide (s.portA.slot.state = .answered) })
    ∧ t.portA = { s.portA with slot := t.portA.slot, earlier := t.portA.earlier }
    ∧ t.portB = { s.portB with slot := t.portB.slot, earlier := t.portB.earlier }
    ∧ (s.supply.rail = .on → t.portA.slot = .empty ∧ t.portB = s.portB)
    ∧ (∀ (k : Ticket) (code : Byte), s.supply.rail = .ramping k → (s.port k.port).slot = .working code k.taking →
      (t.port k.port).slot = .answered (reply x .railOn []) ∧ (k.port = .b → t.portA.slot = .empty)))

/-- SUPPLY_SET clamps, checks V_cut < V_warn < V_start and takes the settings; SUPPLY_READ reports the table, the
input, the supply state, the timers, PWRFAIL, the rails and the settings (R145, R156). Field widths chapter 11
leaves open are those of log 13. -/
def Obligations.SupplyRequests : Prop :=
  (∀ (p : Port) (f : Frame) (x : SupplySettings) (s : State), s.Admits p .supplySet f →
    x = { vWarn := clamp 3000 3600 (field f.body 0 2), vCut := clamp 2800 3300 (field f.body 2 2)
          vStart := clamp 3100 4200 (field f.body 4 2), hold := clamp 65536 2097152 (field f.body 6 4) } →
    exec (.supplySet p f) s = .next (
      if x.vCut < x.vWarn ∧ x.vWarn < x.vStart then
        ({ s with supply := { s.supply with settings := x } }).replied p f (reply .ok .supplySet
          (beBytes 2 x.vWarn ++ beBytes 2 x.vCut ++ beBytes 2 x.vStart ++ beBytes 4 x.hold))
      else s.replied p f (reply .badValue .supplySet [])))
  ∧ (∀ (p : Port) (f : Frame) (s : State), s.Admits p .supplyRead f →
    exec (.supplyRead p f) s = .next (s.replied p f (reply .ok .supplyRead
      ((match s.supply.table with
        | some m => 1 :: beBytes 2 m.vin ++ 1 :: beBytes 2 m.iin ++ 1 :: beBytes 2 m.vbat ++ 1 :: beInt 2 m.ibat
            ++ 1 :: beBytes 2 m.tbat ++ 1 :: beBytes 2 m.vbkp ++ 1 :: beBytes 6 m.tick.toNat
        | none => List.replicate 25 0)
        ++ [s.supply.input.code] ++ encBool s.supply.present.isSome ++ encBool s.supply.ride.isSome
        ++ [s.supply.state.code]
        ++ (match s.supply.hold with
            | some t => 1 :: beBytes 6 t.toNat
            | none => List.replicate 7 0)
        ++ encBool s.supply.debounce.isSome ++ encLevel s.supply.pwrfail ++ [s.supply.rail.code]
        ++ [if s.link.state = .powering ∨ s.link.state = .configuring ∨ s.link.state = .running then 1 else 0]
        ++ beBytes 2 s.supply.settings.vWarn ++ beBytes 2 s.supply.settings.vCut
        ++ beBytes 2 s.supply.settings.vStart ++ beBytes 4 s.supply.settings.hold))))

/-- The expiries of the Supply Monitor: the input becomes PRESENT or ABSENT, the battery is low, the hold ends; and what
each of these does. A PRESENT input takes the charge state from OFF with the enable ON to QUALIFY and leaves any
other; an ABSENT one takes it to OFF. A round judges the supply state: a hard cut first; in NORMAL the
battery-low debounce, or FINISHING at once in the first round; in FINISHING and SHUTDOWN a battery at V_start
returns to NORMAL (R142 to R144, R147 to R151, R167). That a debounce chosen again to be due by its round enters
FINISHING within that round is read from log 30. -/
def Obligations.SupplyStates : Prop :=
  (∀ s : State, s.store.vsys = true →
    (s.supply.present = some s.tick →
      exec .presentQualificationExpiry s = .next ((s.inputBecomes .present).chargeInput))
    ∧ (∀ t : SpanTimer, s.supply.ride = some t → t.due = s.tick → exec .rideThroughExpiry s
      = .next ((({ s with supply := { s.supply with
          input := .absent, present := none, ride := none } }).raise .inputChanged).toCharge .off))
    ∧ (∀ t : SpanTimer, s.supply.debounce = some t → t.due = s.tick →
      exec .batteryLowDebounceExpiry s = .next s.enterFinishing)
    ∧ (s.supply.hold = some s.tick → exec .holdExpiry s = .next (s.shutDown .holdExpired)))
  ∧ (∀ s : State,
    (s.supply.input = .present → s.charge.state = .off → s.charge.enable = true →
      s.chargeInput = s.toCharge .qualify)
    ∧ (s.supply.input = .present → s.charge.state ≠ .off ∨ s.charge.enable = false → s.chargeInput = s)
    ∧ (s.supply.input = .absent → s.chargeInput = s.toCharge .off))
  ∧ (∀ s : State, s.inputBecomes .absent = ({ s with supply := { s.supply with
      input := .absent, present := none, ride := none } }).raise .inputChanged)
  ∧ (∀ s : State, s.supply.state = .normal → s.inputBecomes .present = ({ s with supply := { s.supply with
      input := .present, present := none, ride := none, debounce := none } }).raise .inputChanged)
  ∧ (∀ (gate : Gate) (s : State), s.supply.state ≠ .normal →
    (gate = if s.supply.state = .shutdown ∧ s.store.comparator = .high then .opened else s.store.gate) →
    s.inputBecomes .present = (({ s with
      supply := { s.supply with
        input := .present, present := none, ride := none, debounce := none, state := .normal, pwrfail := .low
        hold := none }
      store := { s.store with gate := gate } }).raise .inputChanged).raise .supplyOk)
  ∧ (∀ s : State, s.supply.rail.isRamping = false → s.enterFinishing = ({ s with supply := { s.supply with
      state := .finishing, pwrfail := .high, debounce := none
      hold := some (later s.tick s.supply.settings.hold) } }).raise .supplyLow)
  ∧ (∀ s : State, s.supply.rail.isRamping = true → s.enterFinishing = (({ s with supply := { s.supply with
      state := .finishing, pwrfail := .high, debounce := none
      hold := some (later s.tick s.supply.settings.hold) } }).raise .supplyLow).railGoesOff (some .wrongState))
  ∧ (∀ (cause : CutCause) (s t : State), t = ((s.seal cause).railGoesOff (some .wrongState)).linkStop →
    s.shutDown cause = { t with supply := { t.supply with
      state := .shutdown, pwrfail := .low, hold := none, debounce := none } })
  ∧ (∀ (m : MeasTable) (first : Bool) (start : Tick) (span : Nat) (s : State),
    (start = match s.supply.debounce with | some t => t.start | none => s.tick) →
    (span = if s.motion.episode.isSome then 4096 else 2048) →
    (s.supply.input = .absent → m.vbat < s.supply.settings.vCut →
      (s.supply.state = .normal → s.judge m first = (s.shutDown .hardCut).raise .supplyLow)
      ∧ (s.supply.state = .finishing → s.judge m first = s.shutDown .hardCut))
    ∧ (s.supply.state = .normal → s.supply.input = .absent → s.supply.settings.vCut ≤ m.vbat →
      m.vbat < s.supply.settings.vWarn →
      (first = true ∨ atOrAfter s.tick (later start span) = true → s.judge m first = s.enterFinishing)
      ∧ (first = false → atOrAfter s.tick (later start span) = false → s.judge m first
        = { s with supply := { s.supply with debounce := some { start := start, due := later start span } } }))
    ∧ (s.supply.state = .normal → s.supply.input = .present ∨ (s.supply.settings.vWarn ≤ m.vbat
        ∧ s.supply.settings.vCut ≤ m.vbat) →
      s.judge m first = { s with supply := { s.supply with debounce := none } })
    ∧ (s.supply.state = .shutdown ∨ (s.supply.state = .finishing
        ∧ (s.supply.input = .present ∨ s.supply.settings.vCut ≤ m.vbat)) →
      (m.vbat < s.supply.settings.vStart → s.judge m first = s)
      ∧ (∀ gate : Gate, s.supply.settings.vStart ≤ m.vbat →
        (gate = if s.supply.state = .shutdown ∧ s.store.comparator = .high then .opened else s.store.gate) →
        s.judge m first = ({ s with
          supply := { s.supply with state := .normal, pwrfail := .low, hold := none }
          store := { s.store with gate := gate } }).raise .supplyOk)))

/-- MEASUREMENT_ROUND, at a round tick that has had no round: the table takes the six values held to their ranges and the
input state is applied; then, in the order the operand names, come the judgement of the supply state, the Charge
Controller's taking of an input change the round made, and its round work with the Gauge's addition before or
after it (R140 to R144, R162, R167, R183). The order operand and the refusal of a second round in one tick are the
model's form (log 11 and 28). -/
def Obligations.MeasurementRounds : Prop :=
  (∀ (r : RawMeas) (o : RoundOrder) (m : MeasTable) (s : State), s.store.vsys = true →
    s.tick.toNat % 1024 = 512 → (∀ old ∈ s.supply.table, old.tick ≠ s.tick) →
    m = { tick := s.tick, vin := (max 0 (min 20000 r.vin)).toNat, iin := (max 0 (min 5000 r.iin)).toNat
          vbat := (max 0 (min 5000 r.vbat)).toNat, ibat := max (-5000) (min 5000 r.ibat)
          tbat := (max 0 (min 4095 r.tbat)).toNat, vbkp := (max 0 (min 5000 r.vbkp)).toNat } →
    ∃ t changed, t = ({ s with supply := { s.supply with table := some m } } : State).applyInput m
      ∧ changed = decide (t.supply.input ≠ s.supply.input)
      ∧ exec (.measurementRound r o) s
        = .next ((WorkOrder.list o.works).foldl (State.work m (!s.supply.decided) changed o.gaugeFirst) t))
  ∧ (∀ (m : MeasTable) (first changed gaugeFirst : Bool) (s : State),
    State.work m first changed gaugeFirst s .supply = s.judge m first
    ∧ State.work m first true gaugeFirst s .input = s.chargeInput
    ∧ State.work m first false gaugeFirst s .input = s
    ∧ State.work m first changed true s .charge = ({ s with gauge := s.gauge.add m.ibat } : State).chargeRound m
    ∧ State.work m first changed false s .charge
      = { s.chargeRound m with gauge := (s.chargeRound m).gauge.add m.ibat })
  ∧ (WorkOrder.list .supplyInputCharge = [.supply, .input, .charge]
    ∧ WorkOrder.list .supplyChargeInput = [.supply, .charge, .input]
    ∧ WorkOrder.list .inputSupplyCharge = [.input, .supply, .charge]
    ∧ WorkOrder.list .inputChargeSupply = [.input, .charge, .supply]
    ∧ WorkOrder.list .chargeSupplyInput = [.charge, .supply, .input]
    ∧ WorkOrder.list .chargeInputSupply = [.charge, .input, .supply])
  ∧ (∀ (m : MeasTable) (s : State), s.supply.decided = false →
    (4400 ≤ m.vin →
      s.applyInput m = ({ s with supply := { s.supply with decided := true } } : State).inputBecomes .present)
    ∧ (m.vin < 4400 → s.applyInput m = { s with supply := { s.supply with decided := true } }))
  ∧ (∀ (m : MeasTable) (s : State), s.supply.decided = true → s.supply.input = .absent →
    (m.vin < 4400 → s.applyInput m = { s with supply := { s.supply with present := none } })
    ∧ (∀ t, s.supply.present = some t → 4400 ≤ m.vin → s.applyInput m = s)
    ∧ (s.supply.present = none → 4400 ≤ m.vin →
      s.applyInput m = { s with supply := { s.supply with present := some (later s.tick 16384) } }))
  ∧ (∀ (m : MeasTable) (start : Tick) (span : Nat) (s : State), s.supply.decided = true →
    s.supply.input = .present → (start = match s.supply.ride with | some t => t.start | none => s.tick) →
    (span = if s.motion.episode.isSome then 4096 else 2048) →
    (4200 ≤ m.vin → s.applyInput m = { s with supply := { s.supply with ride := none } })
    ∧ (m.vin < 4200 → atOrAfter s.tick (later start span) = true → s.applyInput m = s.inputBecomes .absent)
    ∧ (m.vin < 4200 → atOrAfter s.tick (later start span) = false → s.applyInput m
      = { s with supply := { s.supply with ride := some { start := start, due := later start span } } }))

/-! ### Charging and the gauge (chapter 9) -/

/-- CHARGE_SET, CHARGE_ENABLE, POWER_TABLE_SET, POWER_CLASS, FAULT_CLEAR and QUALIFICATION_EXPIRY (R159 to R162, R168,
R175). That CHARGE_SET gives ISET again only when it lowers the target, and the zone cap of 0 in COLD, HOT and UNKNOWN,
is read from log 21. -/
def Obligations.ChargeRequests : Prop :=
  (∀ (p : Port) (f : Frame) (x : ChargeSettings) (s : State), s.Admits p .chargeSet f →
    x = { iLim := clamp 100 3000 (field f.body 0 2), iCc := clamp 64 3000 (field f.body 2 2)
          iPre := clamp 32 512 (field f.body 4 2), iTerm := clamp 32 512 (field f.body 6 2)
          vCv := clamp 4100 4400 (field f.body 8 2) / 10 * 10, safety := clamp 1 16 (field f.body 10 1)
          rBase := min 500 (field f.body 11 2) } →
    exec (.chargeSet p f) s = .next ((s.chargeSettings x).replied p f (reply .ok .chargeSet x.enc)))
  ∧ (∀ (x : ChargeSettings) (cap most : Nat) (s : State), cap = zoneCap x.iCc s.charge.zone →
    (most = if s.charge.state = .precharge then min x.iPre cap else cap) →
    s.chargeSettings x = { s with charge := (s.chargeSettings x).charge, iset := (s.chargeSettings x).iset }
    ∧ (s.charge.target ≤ most →
      s.chargeSettings x = { s with charge := { s.charge with settings := x, ceiling := min s.charge.ceiling cap } })
    ∧ (most < s.charge.target →
      (s.chargeSettings x).charge = { s.charge with
        settings := x, ceiling := min s.charge.ceiling cap, target := most, isetWidth := most / 12 }
      ∧ (0 < most → s.iset.running = true →
        (s.chargeSettings x).iset = { s.iset with staged := some { period := 256, width := most / 12 } })
      ∧ (0 < most → s.iset.running = false → (s.chargeSettings x).iset =
        { running := true, period := 256, width := most / 12, start := s.tick, staged := none
          output := if most / 12 = 0 then .low else .high })
      ∧ (most = 0 → (s.chargeSettings x).iset.running = false
        ∧ (s.iset.running = true → (s.chargeSettings x).iset.output = .low ∧ (s.chargeSettings x).iset.staged = none))))
  ∧ (∀ (p : Port) (f : Frame) (s : State), s.Admits p .chargeEnable f →
    (1 < field f.body 0 1 → exec (.chargeEnable p f) s = .next (s.replied p f (reply .badValue .chargeEnable [])))
    ∧ (∀ t u : State, field f.body 0 1 = 1 →
      t = { s.flying p .chargeEnable f with charge := { s.charge with enable := true } } →
      (u = if s.charge.state = .off ∧ s.supply.input = .present then t.toCharge .qualify else t) →
      exec (.chargeEnable p f) s = .next (u.answer p (reply .ok .chargeEnable [1, u.charge.state.code])))
    ∧ (∀ t u : State, field f.body 0 1 = 0 →
      t = { s.flying p .chargeEnable f with charge := { s.charge with enable := false } } →
      (u = if s.charge.state = .fault ∨ s.charge.state = .off then t else t.toCharge .off) →
      exec (.chargeEnable p f) s = .next (u.answer p (reply .ok .chargeEnable [0, u.charge.state.code]))))
  ∧ (∀ (p : Port) (f : Frame) (t : Vector Nat 8) (s : State), s.Admits p .powerTableSet f →
    (∀ i : Fin 8, t[i] = min 3000 (field f.body (2 * i.val) 2)) →
    exec (.powerTableSet p f) s = .next (({ s with charge := { s.charge with table := t } }).replied p f
      (reply .ok .powerTableSet (t.toList.flatMap (beBytes 2)))))
  ∧ (∀ (p : Port) (f : Frame) (s : State), s.Admits p .powerClass f →
    (8 ≤ field f.body 0 1 → exec (.powerClass p f) s = .next (s.replied p f (reply .badValue .powerClass [])))
    ∧ (∀ i : Fin 8, field f.body 0 1 = i.val → exec (.powerClass p f) s
      = .next (({ s with charge := { s.charge with cls := i } }).replied p f
        (reply .ok .powerClass (beBytes 1 i.val ++ beBytes 2 s.charge.table[i])))))
  ∧ (∀ (p : Port) (f : Frame) (new : ChargeState) (s : State), s.Admits p .faultClear f →
    (new = if s.charge.enable then .qualify else .off) →
    exec (.faultClear p f) s = .next (if s.charge.state = .fault
      then ((s.flying p .faultClear f).toCharge new).answer p (reply .ok .faultClear [new.code])
      else s.replied p f (reply .wrongState .faultClear [])))
  ∧ (∀ (next : ChargeState) (s : State), s.store.vsys = true → s.charge.qual = some s.tick →
    (∀ m, s.supply.table = some m → next = if m.vbat < 3000 then .precharge else .cc) → s.supply.table ≠ none →
    exec .qualificationExpiry s = .next (if s.charge.zone = .cold ∨ s.charge.zone = .hot
      then ({ s with charge := { s.charge with resume := some next } } : State).toCharge .paused
      else s.toCharge next))

/-- Every change of charge state raises CHARGE_STATE on Port B, into FAULT CHARGE_FAULT too. Into a state with no
charging, target, ceiling, T and V become 0 and ISET stops; into CV, V and the termination count become 0; a new
cycle sets the safety count to 0; QUALIFY runs its timer of 2^19 ticks; OFF drops the resume state, and no other state
changes it (R166, R168, R170; into FAULT by log 16). -/
def Obligations.ChargeStateChanges : Prop :=
  ∀ (new : ChargeState) (s t : State), t = s.toCharge new →
    (s.charge.state = new → t = s)
    ∧ (s.charge.state ≠ new →
      t.charge.state = new
      ∧ (∃ n, n = s.portB.notices ||| (if new = .fault then 0x0180 else 0x0080)
        ∧ t.portB = { s.portB with notices := n, attn := attnLevel n s.portB.mask })
      ∧ t = { s with charge := t.charge, iset := t.iset, portB := t.portB }
      ∧ t.charge = { s.charge with
          state := new, qual := t.charge.qual, target := t.charge.target, ceiling := t.charge.ceiling
          trim := t.charge.trim, cv := t.charge.cv, term := t.charge.term, safety := t.charge.safety
          resume := t.charge.resume, isetWidth := t.charge.isetWidth }
      ∧ (new.charging = false → t.charge.target = 0 ∧ t.charge.ceiling = 0 ∧ t.charge.trim = 0 ∧ t.charge.cv = 0
        ∧ t.charge.isetWidth = 0 ∧ t.iset.running = false
        ∧ (s.iset.running = true → t.iset.output = .low ∧ t.iset.staged = none))
      ∧ (new.charging = true → t.charge.target = s.charge.target ∧ t.charge.ceiling = s.charge.ceiling
        ∧ t.charge.trim = s.charge.trim ∧ t.charge.isetWidth = s.charge.isetWidth ∧ t.iset = s.iset
        ∧ (new ≠ .cv → t.charge.cv = s.charge.cv))
      ∧ (new = .cv → t.charge.cv = 0 ∧ t.charge.term = 0) ∧ (new ≠ .cv → t.charge.term = s.charge.term)
      ∧ (new = .qualify → t.charge.qual = some (later s.tick (2 ^ 19)))
      ∧ (s.charge.state = .qualify → t.charge.qual = none)
      ∧ (new ≠ .qualify → s.charge.state ≠ .qualify → t.charge.qual = s.charge.qual)
      ∧ (new = .off → t.charge.resume = none) ∧ (new ≠ .off → t.charge.resume = s.charge.resume)
      ∧ ((s.charge.state = .qualify ∧ (new = .precharge ∨ new = .cc ∨ new = .paused))
          ∨ (s.charge.state = .done ∧ (new = .cc ∨ new = .paused)) → t.charge.safety = 0)
      ∧ (¬ ((s.charge.state = .qualify ∧ (new = .precharge ∨ new = .cc ∨ new = .paused))
          ∨ (s.charge.state = .done ∧ (new = .cc ∨ new = .paused))) → t.charge.safety = s.charge.safety))

/-- A round in CV first counts its low current, whatever it then does (read from R172, log 30); then the one change of
charge state, by the first condition that applies: thermistor, overvoltage, precharge time, safety time, pause,
resume, progress; in OFF and FAULT none (R169, R170, R173, R174). Progress: PRECHARGE to CC at 3000 mV; CC to CV
at V_cv(zone) − 20 mV; CV at a count of 64 is DONE with the Gauge full; DONE begins a new cycle below
V_cv(zone) − 100 mV (R171, R172, R183). -/
def Obligations.ChargeTransitions : Prop :=
  (∀ (m : MeasTable) (n : Nat) (s u : State) (fault : FaultCause → State),
    (n = if (s.charge.settings.iTerm : Int) ≤ m.ibat then 0
      else if s.charge.settings.iTerm ≤ s.charge.ceiling then s.charge.term + 1 else s.charge.term) →
    (u = if s.charge.state = .cv then { s with charge := { s.charge with term := n } } else s) →
    (∀ cause, ∃ snap : Snapshot,
      snap = { previous := s.charge.state, cause := cause, vbat := m.vbat, ibat := m.ibat
               temp := if cause = .thermistorShort ∨ cause = .thermistorOpen then none else s.charge.temp
               target := s.charge.target, safety := s.charge.safety }
      ∧ fault cause = ({ u with charge := { u.charge with snapshot := some snap } } : State).toCharge .fault) →
    (s.charge.state = .off ∨ s.charge.state = .fault → s.transition m = s)
    ∧ (∀ cause, (s.charge.therm = some .short ∧ cause = .thermistorShort)
        ∨ (s.charge.therm = some .opened ∧ cause = .thermistorOpen) →
      (s.charge.state.charging = true ∨ s.charge.state = .done ∨ s.charge.state = .paused →
        s.transition m = fault cause)
      ∧ (s.charge.state = .qualify →
        s.transition m = { s with charge := { s.charge with qual := some (later s.tick (2 ^ 19)) } }))
    ∧ (s.charge.therm = some .valid →
      (s.charge.state = .qualify → s.transition m = s)
      ∧ (s.charge.state.charging = true →
        (s.charge.settings.vCv + 100 < m.vbat → s.transition m = fault .overvoltage)
        ∧ (m.vbat ≤ s.charge.settings.vCv + 100 →
          (s.charge.state = .precharge → 1843200 ≤ s.charge.safety → s.transition m = fault .prechargeTime)
          ∧ (¬ (s.charge.state = .precharge ∧ 1843200 ≤ s.charge.safety) →
            (s.charge.settings.safety * 3686400 ≤ s.charge.safety → s.transition m = fault .safetyTime)
            ∧ (s.charge.safety < s.charge.settings.safety * 3686400 →
              (s.charge.zone = .cold ∨ s.charge.zone = .hot → s.transition m = ({ u with
                charge := { u.charge with resume := some s.charge.state } } : State).toCharge .paused)
              ∧ (s.charge.zone ≠ .cold → s.charge.zone ≠ .hot → s.transition m = u.progress m)))))
      ∧ (∀ r, s.charge.state = .paused → s.charge.resume = some r →
        (s.charge.zone = .cool ∨ s.charge.zone = .normal ∨ s.charge.zone = .warm → s.transition m
          = ({ s with charge := { s.charge with resume := none } } : State).toCharge r)
        ∧ (s.charge.zone = .cold ∨ s.charge.zone = .hot → s.transition m = s))
      ∧ (s.charge.state = .done → s.transition m = s.progress m)))
  ∧ (∀ (m : MeasTable) (vz : Nat) (s : State),
    (vz = if s.charge.zone = .warm then s.charge.settings.vCv - 100 else s.charge.settings.vCv) →
    (s.charge.state = .precharge → s.progress m = if 3000 ≤ m.vbat then s.toCharge .cc else s)
    ∧ (s.charge.state = .cc → s.progress m = if vz - 20 ≤ m.vbat then s.toCharge .cv else s)
    ∧ (s.charge.state = .cv → s.charge.term < 64 → s.progress m = s)
    ∧ (s.charge.state = .cv → 64 ≤ s.charge.term → s.progress m = ({ s with gauge := { s.gauge with
        acc := s.gauge.capacity * 3774873600, calibrated := true } } : State).toCharge .done)
    ∧ (s.charge.state = .done → vz ≤ m.vbat + 100 → s.progress m = s)
    ∧ (s.charge.state = .done → m.vbat + 100 < vz → s.charge.zone ≠ .cold → s.charge.zone ≠ .hot →
      s.progress m = s.toCharge .cc)
    ∧ (s.charge.state = .done → m.vbat + 100 < vz → s.charge.zone = .cold ∨ s.charge.zone = .hot →
      s.progress m = ({ s with charge := { s.charge with resume := some .cc } } : State).toCharge .paused))

/-- Temperature and zone: a code below 64 is SHORT, above 4032 OPEN, both with the zone UNKNOWN; else the
temperature interpolates the breakpoints, and the zone follows it, directly from UNKNOWN, with hysteresis
elsewhere (R163, R164). -/
def Obligations.TemperatureAndZones : Prop :=
  (∀ (code : Nat) (c : Charge),
    (code < 64 → c.thermal code = { c with therm := some .short, temp := none, zone := .unknown })
    ∧ (4032 < code → c.thermal code = { c with therm := some .opened, temp := none, zone := .unknown })
    ∧ (64 ≤ code → code ≤ 4032 → c.thermal code
      = { c with therm := some .valid, temp := some (temperature code), zone := nextZone (temperature code) c.zone }))
  ∧ (∀ (k : Nat) (d : Nat) (t : List Int), k < 16 → d < 256 →
    t = [1500, 1080, 880, 750, 650, 570, 500, 430, 370, 310, 250, 190, 120, 50, -30, -140, -400] →
    temperature (256 * k + d) = t[k]! + nearest ((t[k + 1]! - t[k]!) * d) 256)
  ∧ (∀ t : Int, nextZone t .unknown = if t < 0 then .cold else if t < 100 then .cool else if t ≤ 450 then .normal
      else if t ≤ 600 then .warm else .hot)
  ∧ (∀ t : Int, nextZone t .cold = if 620 ≤ t then .hot else if 470 ≤ t then .warm else if 120 ≤ t then .normal
      else if 20 ≤ t then .cool else .cold)
  ∧ (∀ t : Int, nextZone t .cool = if 620 ≤ t then .hot else if 470 ≤ t then .warm else if 120 ≤ t then .normal
      else if t ≤ -20 then .cold else .cool)
  ∧ (∀ t : Int, nextZone t .normal = if 620 ≤ t then .hot else if 470 ≤ t then .warm
      else if t ≤ -20 then .cold else if t ≤ 80 then .cool else .normal)
  ∧ (∀ t : Int, nextZone t .warm = if 620 ≤ t then .hot
      else if t ≤ -20 then .cold else if t ≤ 80 then .cool else if t ≤ 430 then .normal else .warm)
  ∧ (∀ t : Int, nextZone t .hot = if t ≤ -20 then .cold else if t ≤ 80 then .cool else if t ≤ 430 then .normal
      else if t ≤ 580 then .warm else .hot)

/-- A round's charge work, from the state u after its thermal reading and transition: I_avail and B, the trim, the
CV term, ceiling and target by the table of R179, ISET driven at 12 mA a tick of width, and the safety count
(R173, R176 to R180). The rest of the charge record, the notices and the Gauge are as the transition left them. The
zone cap is 0 in COLD, HOT and UNKNOWN (log 21). -/
def Obligations.ChargeRound : Prop :=
  (∀ (iCc : Nat), zoneCap iCc .normal = iCc ∧ zoneCap iCc .cool = iCc / 2 ∧ zoneCap iCc .warm = iCc / 2
    ∧ zoneCap iCc .cold = 0 ∧ zoneCap iCc .hot = 0 ∧ zoneCap iCc .unknown = 0)
  ∧ ∀ (m : MeasTable) (s u : State) (c d : Charge) (vz cap : Nat), c = u.charge → d = (s.chargeRound m).charge →
    u = ({ s with charge := s.charge.thermal m.tbat } : State).transition m →
    (vz = if c.zone = .warm then c.settings.vCv - 100 else c.settings.vCv) → cap = zoneCap c.settings.iCc c.zone →
    s.chargeRound m = { s with charge := d, iset := (s.chargeRound m).iset, gauge := (s.chargeRound m).gauge
                               portB := (s.chargeRound m).portB }
    ∧ (s.chargeRound m).gauge = u.gauge ∧ (s.chargeRound m).portB = u.portB
    ∧ d = { c with
        avail := d.avail, budget := d.budget, trim := d.trim, cv := d.cv, ceiling := d.ceiling, target := d.target
        isetWidth := d.isetWidth, safety := d.safety }
    ∧ d.avail = c.settings.iLim - c.table[c.cls] - c.settings.rBase
    ∧ d.budget = d.avail * m.vin * 7 / (8 * max m.vbat 2500)
    ∧ (c.state.charging = false → d.trim = c.trim ∧ d.ceiling = 0 ∧ d.target = 0 ∧ d.safety = c.safety)
    ∧ (c.state.charging = true →
      d.trim = (if c.settings.iLim < m.iin then max (-3000) (c.trim - 64)
        else if m.iin + 128 < c.settings.iLim ∧ c.trim < 0 then min 0 (c.trim + 16) else c.trim)
      ∧ (d.ceiling : Int) = max 0 ((min cap d.budget : Nat) + d.trim)
      ∧ d.safety = (if 0 < d.target then min 58982400 (c.safety + 1) else c.safety))
    ∧ (c.state ≠ .cv → d.cv = c.cv)
    ∧ (c.state = .cv → d.cv = if vz < m.vbat then max (-3000) (c.cv - 16)
        else if m.vbat + 10 < vz ∧ c.cv < 0 then min 0 (c.cv + 16) else c.cv)
    ∧ (c.state = .precharge → (d.target : Int) = max 0 ((min c.settings.iPre (min cap d.budget) : Nat) + d.trim))
    ∧ (c.state = .cc → d.target = d.ceiling)
    ∧ (c.state = .cv → (d.target : Int) = max 0 (d.ceiling + d.cv))
    ∧ d.isetWidth = d.target / 12
    ∧ (d.target = 0 → (s.chargeRound m).iset.running = false
      ∧ (u.iset.running = true → (s.chargeRound m).iset.output = .low ∧ (s.chargeRound m).iset.staged = none))
    ∧ (0 < d.target → u.iset.running = true →
      (s.chargeRound m).iset = { u.iset with staged := some { period := 256, width := d.target / 12 } })
    ∧ (0 < d.target → u.iset.running = false → (s.chargeRound m).iset =
      { running := true, period := 256, width := d.target / 12, start := u.tick, staged := none
        output := if d.target / 12 = 0 then .low else .high })

/-- GAUGE_SET clamps and takes a capacity and a charge; GAUGE_READ and CHARGE_READ report; a round adds IBAT × 1024
and holds the sum to 0…full charge (R181, R182, R184, R185). Code orders and field widths chapter 11 leaves open
are those of log 12 and 13. -/
def Obligations.GaugeAndReports : Prop :=
  (∀ (p : Port) (f : Frame) (cap charge : Nat) (s : State), s.Admits p .gaugeSet f →
    cap = clamp 100 10000 (field f.body 0 2) → charge = min cap (field f.body 2 2) →
    exec (.gaugeSet p f) s = .next (({ s with gauge := {
      acc := charge * 3774873600, capacity := cap, calibrated := true } }).replied p f
      (reply .ok .gaugeSet (beBytes 2 cap ++ beBytes 2 charge))))
  ∧ (∀ (p : Port) (f : Frame) (s : State), s.Admits p .gaugeRead f →
    exec (.gaugeRead p f) s = .next (s.replied p f (reply .ok .gaugeRead
      (beBytes 2 (s.gauge.acc / 3774873600) ++ beBytes 1 (s.gauge.acc * 100 / (s.gauge.capacity * 3774873600))
        ++ encBool s.gauge.calibrated ++ beBytes 2 s.gauge.capacity ++ beBytes 6 s.gauge.acc))))
  ∧ (∀ (ibat : Int) (g : Gauge), ((g.add ibat).acc : Int)
      = max 0 (min ((g.capacity * 3774873600 : Nat) : Int) (g.acc + ibat * 1024))
    ∧ (g.add ibat).capacity = g.capacity ∧ (g.add ibat).calibrated = g.calibrated)
  ∧ (∀ (p : Port) (f : Frame) (c : Charge) (s : State), s.Admits p .chargeRead f → c = s.charge →
    exec (.chargeRead p f) s = .next (s.replied p f (reply .ok .chargeRead
      ([c.state.code]
        ++ (match c.resume with
            | some r => [1, r.code]
            | none => [0, 0])
        ++ encBool c.enable
        ++ (match c.therm with
            | some t => [1, t.code]
            | none => [0, 0])
        ++ (match c.temp with
            | some t => 1 :: beInt 2 t
            | none => [0, 0, 0])
        ++ [c.zone.code] ++ beBytes 1 c.cls.val ++ beBytes 2 c.table[c.cls] ++ beBytes 2 c.avail
        ++ beBytes 2 c.budget ++ beInt 2 c.trim ++ beInt 2 c.cv ++ beBytes 2 c.ceiling ++ beBytes 2 c.target
        ++ beBytes 1 c.isetWidth ++ beBytes 4 c.safety ++ beBytes 1 c.term ++ encBool c.qual.isSome
        ++ (match c.snapshot with
            | some x => 1 :: x.enc
            | none => List.replicate 16 0)
        ++ c.settings.enc ++ c.table.toList.flatMap (beBytes 2)))))

/-! ### Reset and invariants -/

/-- SOFT_RESET: CLIP_OPEN while a clip is OPEN; else every block takes its SOFT_RESET values and nothing else changes: the
masks all enabled, Port A's slot emptied with what it was owed, the rail off, the link in OFF with its counts 0, the
charge cycle begun anew; the settings, temperature, zone and fault snapshot, the notice sets, the Retained Store, the
measurement table, the supply state, the policy and time are kept (R10, R38, R59, R81, R157, R186, R193, R203, R204).
The first-sample indication and the thermistor condition, which no rule names here, are kept by log 20; the period of
a stopped generator is log 8's, the record `earlier` log 1's, the outputs and the taking count log 10's and 19's. -/
def Obligations.SoftReset : Prop :=
  (∀ (p : Port) (f : Frame) (x : Clip) (s : State), s.Admits p .softReset f → s.catalogue.openClip = some x →
    exec (.softReset p f) s = .next (s.replied p f (reply .clipOpen .softReset [])))
  ∧ ∀ (p : Port) (f : Frame) (s : State) (again : Bool) (sets : BitVec 16) (pairA : Pairing),
    s.Admits p .softReset f → s.catalogue.openClip = none →
    again = (decide (s.supply.input = .present) && s.charge.enable) →
    (sets = if s.charge.state ≠ .off ∨ again = true then s.portB.notices ||| 0x0080 else s.portB.notices) →
    (pairA = match s.portA.slot with
      | .working _ n => if s.pairA.armed = some n then { armed := none, timeout := none } else s.pairA
      | _ => s.pairA) →
    exec (.softReset p f) s = .next { s with
      portA := { s.portA with
        slot := .empty, mask := 0xFFFF, attn := attnLevel s.portA.notices 0xFFFF
        earlier := { working := s.portA.earlier.working || decide (s.portA.slot.state = .working)
                     answered := s.portA.earlier.answered || decide (s.portA.slot.state = .answered) } }
      portB := {
        slot := .answered (reply .ok .softReset []), earlier := Earlier.none, takings := s.portB.takings + 1
        notices := sets, mask := 0xFFFF, attn := attnLevel sets 0xFFFF, sent := [], busy := false }
      pairA := pairA
      channels := { fst := none, fen := none, drdy := none, synca := none, syncb := none, wheel := none }
      qualifier := { raw := s.qualifier.raw, qualified := s.qualifier.raw, change := none }
      wheel := State.reset.wheel, ftrig := State.reset.ftrig, iset := State.reset.iset
      link := { s.link with
        state := .off, attempts := 0, gaps := 0, bus := .free, queue := [], replaced := false, startup := none
        recovery := none, stall := none }
      motion := { State.reset.motion with settings := s.motion.settings, limit := s.motion.limit }
      frames := { State.reset.frames with lens := s.frames.lens }
      supply := { s.supply with rail := .off, ramp := if s.supply.rail = .off then s.supply.ramp else none }
      charge := { s.charge with
        state := if again then .qualify else .off
        qual := if again then some (later s.tick (2 ^ 19)) else none
        cls := 0, resume := none, safety := 0, term := 0, avail := 0, budget := 0, trim := 0, cv := 0
        ceiling := 0, target := 0, isetWidth := 0 } }

/-- The part after reset satisfies every invariant of the package; which POR that reset is, is the model's choice
(log 7). -/
def Obligations.ResetIsSound : Prop :=
  State.reset.LinesOk ∧ State.reset.Bounded ∧ State.reset.catalogue.Ok ∧ State.reset.AnglesOk
  ∧ State.reset.SettingsOk ∧ State.reset.ChargeOk ∧ State.reset.gauge.Ok ∧ State.reset.LinkOk
  ∧ State.reset.FramesOk ∧ State.reset.OwnersOk ∧ State.reset.SupplyOk

/-- Every step keeps the notice lines right: ATTN follows set and mask, a set holds only kinds routed to its port,
PWRFAIL is high in FINISHING alone (R146, R199, R200). -/
def Obligations.StepKeepsLines : Prop :=
  ∀ s t : State, s.LinesOk → step s = .next t → t.LinesOk

/-- Every step keeps the collections and counts within their bounds (R32, R46, R48, R50, R55, R61, R68, R75, R172,
R173). -/
def Obligations.StepKeepsBounds : Prop :=
  ∀ s t : State, s.Bounded → step s = .next t → t.Bounded

/-- Every step keeps the clip catalogue: its records in ascending distinct numbers with fields that agree with their
state, at most one OPEN, a reservation only while one is, the units in use within the capacity, the pool within
256 marks (R85 to R87, R89, R95, R112, R113). -/
def Obligations.StepKeepsCatalogue : Prop :=
  ∀ s t : State, s.catalogue.Ok → step s = .next t → t.catalogue.Ok

/-- Every step keeps the settings in their ranges, the accumulators within the limits of the lens in force, and the
gauge within its full charge (R14, R20, R44, R57, R60, R145, R159, R161, R182). -/
def Obligations.StepKeepsValues : Prop :=
  ∀ s t : State, s.AnglesOk ∧ s.SettingsOk ∧ s.gauge.Ok → step s = .next t → t.AnglesOk ∧ t.SettingsOk ∧ t.gauge.Ok

/-- Every step keeps the charger: target and ceiling 0 out of the charging states and within the zone cap in them,
ISET running with a target above 0 and its width the target's (R166, R177 to R180). The zone cap of 0 in COLD, HOT
and UNKNOWN is read from log 21. -/
def Obligations.StepKeepsCharge : Prop :=
  ∀ s t : State, s.ChargeOk → step s = .next t → t.ChargeOk

/-- Every step keeps the link: in each state exactly its timer runs and only its transfers are on the bus; a free
bus has nothing waiting (R19, R26, R27, R30, R34). -/
def Obligations.StepKeepsLink : Prop :=
  ∀ s t : State, s.LinkOk → step s = .next t → t.LinkOk

/-- Every step keeps the Frame Tracker: FTRIG runs and a frame is open exactly out of IDLE, and bands are pending
only there (R61 to R63). That no frame is current in IDLE after FRAME_STOP and after the media rail goes off is read
from log 20. -/
def Obligations.StepKeepsFrames : Prop :=
  ∀ s t : State, s.FramesOk → step s = .next t → t.FramesOk

/-- Every step keeps the requests in flight: a WORKING slot is the port's latest taking and is owed exactly one completion,
its own, and a slot that is not WORKING none (R190, R191). The taking count is log 10's and the record `earlier`
log 1's. -/
def Obligations.StepKeepsOwners : Prop :=
  ∀ s t : State, s.OwnersOk → step s = .next t → t.OwnersOk

/-- Every step keeps the supply: its timers run only in their states, a PRESENT input means NORMAL, SHUTDOWN means
the rail off and the gate closed, a LOW comparator a closed gate, and no input no charge (R125, R132, R142 to
R153, R167). -/
def Obligations.StepKeepsSupply : Prop :=
  ∀ s t : State, s.SupplyOk → step s = .next t → t.SupplyOk

/-! ### Records and settings on the wire (sections 11.4 and 11.5) -/

/-- How the answers spell what they carry: an unsigned field most significant byte first, a signed one in two's
complement, a flag byte by its bits; the correction record in 24 bytes, the clip record in 45, the mark record in 17,
the cut record in 21, an absent field as zeros with its indication clear, each enumerated value numbered from 0 in
the order of its rule (R207, section 11.5); and the groups of settings and the fault snapshot in the order their rules
list them (R57, R60, R61, R159, R174). The widths of the snapshot's fields are read from log 13 and
the code of its previous state from log 12. -/
def Obligations.RecordLayouts : Prop :=
  (∀ w n : Nat, (beBytes w n).length = w
    ∧ ∀ i, i < w → (beBytes w n)[i]? = some (BitVec.ofNat 8 (n / 256 ^ (w - 1 - i))))
  ∧ (∀ (w : Nat) (i : Int), beInt w i = beBytes w (i % (256 ^ w : Nat)).toNat)
  ∧ (∀ r : CorrRec, ∃ flags : Byte,
    flags.getLsbD 0 = r.stale ∧ flags.getLsbD 1 = r.noMotion ∧ flags.getLsbD 2 = r.pinned
    ∧ flags.getLsbD 3 = r.clamped ∧ flags.getLsbD 4 = r.shock ∧ flags.getLsbD 5 = r.droppedBefore
    ∧ flags.toNat < 64
    ∧ r.enc = beBytes 4 r.frame.toNat ++ beBytes 1 r.band ++ [flags] ++ beBytes 6 r.time.toNat
      ++ beBytes 6 r.formed.toNat ++ beInt 2 r.dx ++ beInt 2 r.dy ++ beInt 2 r.droll
    ∧ r.enc.length = 24)
  ∧ (∀ x : Clip, ∃ state prot flags cause : Byte,
    (state = match x.state with | .opened => 0 | .closed => 1 | .cut => 2 | .recycling => 3)
    ∧ (prot = match x.protection with | .none => 0 | .user => 1 | .crash => 2)
    ∧ flags.getLsbD 0 = x.startFrame.isSome ∧ flags.getLsbD 1 = x.ending.isSome
    ∧ flags.getLsbD 2 = x.frameCount.isSome ∧ flags.getLsbD 3 = x.cutCause.isSome
    ∧ flags.getLsbD 4 = x.truncated ∧ flags.toNat < 32
    ∧ (cause = match x.cutCause with
        | none | some .holdExpired => 0
        | some .hardCut => 1
        | some .forced => 2
        | some .unsealed => 3)
    ∧ x.enc = beBytes 4 x.number ++ [state, prot, flags, cause]
      ++ beBytes 2 x.start.epoch.toNat ++ beBytes 6 x.start.tick.toNat
      ++ (match x.ending with
          | some e => beBytes 2 e.epoch.toNat ++ beBytes 6 e.tick.toNat
          | none => [0, 0, 0, 0, 0, 0, 0, 0])
      ++ (match x.startFrame with
          | some n => beBytes 4 n.toNat
          | none => [0, 0, 0, 0])
      ++ (match x.frameCount with
          | some n => beBytes 4 n
          | none => [0, 0, 0, 0])
      ++ beBytes 4 x.committed ++ beBytes 4 x.reserved ++ beBytes 2 x.staleBands ++ beBytes 2 x.pinnedBands
      ++ beBytes 1 x.marks.length
    ∧ x.enc.length = 45)
  ∧ (∀ (number : Nat) (m : Mark), m.enc number = beBytes 4 number
      ++ ([match m.kind with | .shock => 0 | .crash => 1 | .user => 2, if m.peak.isSome then 1 else 0] : List Byte)
      ++ beBytes 2 m.time.epoch.toNat ++ beBytes 6 m.time.tick.toNat
      ++ (match m.peak with
          | some k => beBytes 2 k
          | none => [0, 0])
      ++ beBytes 1 m.band.val
    ∧ (m.enc number).length = 17)
  ∧ (∀ x : ChargeState, x.code = match x with
    | .off => 0 | .qualify => 1 | .precharge => 2 | .cc => 3 | .cv => 4 | .done => 5 | .paused => 6 | .fault => 7)
  ∧ (∀ c : CutRec, c.enc = beBytes 4 c.number
      ++ ([match c.cause with | .holdExpired => 0 | .hardCut => 1 | .forced => 2 | .unsealed => 3
        , (if c.vbat.isSome then 1 else 0) + (if c.charge.isSome then 2 else 0)] : List Byte)
      ++ beBytes 4 c.committed ++ beBytes 2 c.time.epoch.toNat ++ beBytes 6 c.time.tick.toNat
      ++ (match c.vbat with
          | some v => beBytes 2 v
          | none => [0, 0])
      ++ [match c.charge with
          | some x => x.code
          | none => 0]
    ∧ c.enc.length = 21)
  ∧ (∀ x : Snapshot, x.enc = [x.previous.code
        , match x.cause with
          | .thermistorShort => 0 | .thermistorOpen => 1 | .overvoltage => 2 | .prechargeTime => 3 | .safetyTime => 4]
      ++ beBytes 2 x.vbat ++ beInt 2 x.ibat
      ++ (match x.temp with
          | some t => 1 :: beInt 2 t
          | none => [0, 0, 0])
      ++ beBytes 2 x.target ++ beBytes 4 x.safety)
  ∧ (∀ a : AxisMap, a.code = (match a.src with | .x => 0 | .y => 1 | .z => 2) + (if a.minus then 128 else 0))
  ∧ (∀ x : MotionSettings, x.enc = beBytes 2 x.gain ++ [x.map.yaw.code, x.map.pitch.code, x.map.roll.code]
      ++ beBytes 1 x.leak[0] ++ beBytes 1 x.leak[1] ++ beBytes 1 x.leak[2] ++ beBytes 1 x.leak[3]
      ++ beBytes 2 x.still ++ beBytes 2 x.shock ++ beBytes 2 x.crash)
  ∧ (∀ x : Lens, x.enc = beBytes 2 x.fx ++ beBytes 2 x.fy ++ beBytes 2 x.mx ++ beBytes 2 x.my ++ beBytes 2 x.mroll)
  ∧ (∀ x : FrameParams, x.enc = beBytes 4 x.period ++ beBytes 4 x.width ++ beBytes 1 x.bands ++ beBytes 4 x.rCfg
      ++ beBytes 4 x.window ++ beBytes 1 x.watermark)
  ∧ (∀ x : ChargeSettings, x.enc = beBytes 2 x.iLim ++ beBytes 2 x.iCc ++ beBytes 2 x.iPre ++ beBytes 2 x.iTerm
      ++ beBytes 2 x.vCv ++ beBytes 1 x.safety ++ beBytes 2 x.rBase)
end

