-- ==== Sys2Proof/Laws/State.lean ====
section
/-! SUPPORT. What each named update of State leaves unchanged, and what it writes: one lemma a field and update,
so that no later proof unfolds a record update. -/

namespace Sys2Proof.Machine

/-! ### What the updates write -/

@[simp] theorem State.port_setPort (s : State) (p : Port) (x : PortState) : (s.setPort p x).port p = x := by
  cases p <;> rfl

theorem State.port_setPort_other (s : State) (p q : Port) (x : PortState) (h : q ≠ p) :
    (s.setPort p x).port q = s.port q := by
  cases p <;> cases q <;> first | rfl | exact absurd rfl h

@[simp] theorem State.setPort_setPort (s : State) (p : Port) (x y : PortState) :
    (s.setPort p x).setPort p y = s.setPort p y := by
  cases p <;> rfl

@[simp] theorem State.pair_setPair (s : State) (p : Port) (x : Pairing) : (s.setPair p x).pair p = x := by
  cases p <;> rfl

@[simp] theorem State.pair_setPort (s : State) (p q : Port) (x : PortState) : (s.setPort p x).pair q = s.pair q := by
  cases p <;> cases q <;> rfl

@[simp] theorem State.port_setPair (s : State) (p q : Port) (x : Pairing) : (s.setPair p x).port q = s.port q := by
  cases p <;> cases q <;> rfl

@[simp] theorem State.gen_setGen (s : State) (g : GenId) (x : Generator) : (s.setGen g x).gen g = x := by
  cases g <;> rfl

@[simp] theorem Channels.held_put (c : Channels) (ch : Channel) (x : Option Tick) : (c.put ch x).held ch = x := by
  cases ch <;> rfl

@[simp] theorem Channels.put_put (c : Channels) (ch : Channel) (x y : Option Tick) :
    (c.put ch x).put ch y = c.put ch y := by
  cases ch <;> rfl

@[simp] theorem State.emptied_capture (s : State) (ch : Channel) (t : Tick) :
    (s.capture ch t).emptied ch = s.emptied ch := by
  cases ch <;> rfl

theorem State.port_raise (s : State) (n : Notice) (p : Port) :
    (s.raise n).port p = if n.routed p then (s.port p).raise n else s.port p := by
  cases p <;> rfl

@[simp] theorem State.slot_raise (s : State) (n : Notice) (p : Port) :
    ((s.raise n).port p).slot = (s.port p).slot := by
  cases n <;> cases p <;> rfl

@[simp] theorem State.takings_raise (s : State) (n : Notice) (p : Port) :
    ((s.raise n).port p).takings = (s.port p).takings := by
  cases n <;> cases p <;> rfl

/-! ### `setPort`: the other fields -/

@[simp] theorem State.setPort_tick (s : State) (p : Port) (x : PortState) : (s.setPort p x).tick = s.tick := by cases p <;> rfl
@[simp] theorem State.setPort_channels (s : State) (p : Port) (x : PortState) : (s.setPort p x).channels = s.channels := by cases p <;> rfl
@[simp] theorem State.setPort_qualifier (s : State) (p : Port) (x : PortState) : (s.setPort p x).qualifier = s.qualifier := by cases p <;> rfl
@[simp] theorem State.setPort_wheel (s : State) (p : Port) (x : PortState) : (s.setPort p x).wheel = s.wheel := by cases p <;> rfl
@[simp] theorem State.setPort_pairA (s : State) (p : Port) (x : PortState) : (s.setPort p x).pairA = s.pairA := by cases p <;> rfl
@[simp] theorem State.setPort_pairB (s : State) (p : Port) (x : PortState) : (s.setPort p x).pairB = s.pairB := by cases p <;> rfl
@[simp] theorem State.setPort_ftrig (s : State) (p : Port) (x : PortState) : (s.setPort p x).ftrig = s.ftrig := by cases p <;> rfl
@[simp] theorem State.setPort_iset (s : State) (p : Port) (x : PortState) : (s.setPort p x).iset = s.iset := by cases p <;> rfl
@[simp] theorem State.setPort_link (s : State) (p : Port) (x : PortState) : (s.setPort p x).link = s.link := by cases p <;> rfl
@[simp] theorem State.setPort_motion (s : State) (p : Port) (x : PortState) : (s.setPort p x).motion = s.motion := by cases p <;> rfl
@[simp] theorem State.setPort_frames (s : State) (p : Port) (x : PortState) : (s.setPort p x).frames = s.frames := by cases p <;> rfl
@[simp] theorem State.setPort_catalogue (s : State) (p : Port) (x : PortState) : (s.setPort p x).catalogue = s.catalogue := by cases p <;> rfl
@[simp] theorem State.setPort_store (s : State) (p : Port) (x : PortState) : (s.setPort p x).store = s.store := by cases p <;> rfl
@[simp] theorem State.setPort_supply (s : State) (p : Port) (x : PortState) : (s.setPort p x).supply = s.supply := by cases p <;> rfl
@[simp] theorem State.setPort_charge (s : State) (p : Port) (x : PortState) : (s.setPort p x).charge = s.charge := by cases p <;> rfl
@[simp] theorem State.setPort_gauge (s : State) (p : Port) (x : PortState) : (s.setPort p x).gauge = s.gauge := by cases p <;> rfl
@[simp] theorem State.setPort_policy (s : State) (p : Port) (x : PortState) : (s.setPort p x).policy = s.policy := by cases p <;> rfl
@[simp] theorem State.setPort_locked (s : State) (p : Port) (x : PortState) : (s.setPort p x).locked = s.locked := by cases p <;> rfl
@[simp] theorem State.setPort_pending (s : State) (p : Port) (x : PortState) : (s.setPort p x).pending = s.pending := by cases p <;> rfl

/-! ### `setPair`: the other fields -/

@[simp] theorem State.setPair_tick (s : State) (p : Port) (x : Pairing) : (s.setPair p x).tick = s.tick := by cases p <;> rfl
@[simp] theorem State.setPair_channels (s : State) (p : Port) (x : Pairing) : (s.setPair p x).channels = s.channels := by cases p <;> rfl
@[simp] theorem State.setPair_qualifier (s : State) (p : Port) (x : Pairing) : (s.setPair p x).qualifier = s.qualifier := by cases p <;> rfl
@[simp] theorem State.setPair_wheel (s : State) (p : Port) (x : Pairing) : (s.setPair p x).wheel = s.wheel := by cases p <;> rfl
@[simp] theorem State.setPair_ftrig (s : State) (p : Port) (x : Pairing) : (s.setPair p x).ftrig = s.ftrig := by cases p <;> rfl
@[simp] theorem State.setPair_iset (s : State) (p : Port) (x : Pairing) : (s.setPair p x).iset = s.iset := by cases p <;> rfl
@[simp] theorem State.setPair_link (s : State) (p : Port) (x : Pairing) : (s.setPair p x).link = s.link := by cases p <;> rfl
@[simp] theorem State.setPair_motion (s : State) (p : Port) (x : Pairing) : (s.setPair p x).motion = s.motion := by cases p <;> rfl
@[simp] theorem State.setPair_frames (s : State) (p : Port) (x : Pairing) : (s.setPair p x).frames = s.frames := by cases p <;> rfl
@[simp] theorem State.setPair_catalogue (s : State) (p : Port) (x : Pairing) : (s.setPair p x).catalogue = s.catalogue := by cases p <;> rfl
@[simp] theorem State.setPair_store (s : State) (p : Port) (x : Pairing) : (s.setPair p x).store = s.store := by cases p <;> rfl
@[simp] theorem State.setPair_supply (s : State) (p : Port) (x : Pairing) : (s.setPair p x).supply = s.supply := by cases p <;> rfl
@[simp] theorem State.setPair_charge (s : State) (p : Port) (x : Pairing) : (s.setPair p x).charge = s.charge := by cases p <;> rfl
@[simp] theorem State.setPair_gauge (s : State) (p : Port) (x : Pairing) : (s.setPair p x).gauge = s.gauge := by cases p <;> rfl
@[simp] theorem State.setPair_portA (s : State) (p : Port) (x : Pairing) : (s.setPair p x).portA = s.portA := by cases p <;> rfl
@[simp] theorem State.setPair_portB (s : State) (p : Port) (x : Pairing) : (s.setPair p x).portB = s.portB := by cases p <;> rfl
@[simp] theorem State.setPair_policy (s : State) (p : Port) (x : Pairing) : (s.setPair p x).policy = s.policy := by cases p <;> rfl
@[simp] theorem State.setPair_locked (s : State) (p : Port) (x : Pairing) : (s.setPair p x).locked = s.locked := by cases p <;> rfl
@[simp] theorem State.setPair_pending (s : State) (p : Port) (x : Pairing) : (s.setPair p x).pending = s.pending := by cases p <;> rfl

/-! ### `raise`: the other fields -/

@[simp] theorem State.raise_tick (s : State) (n : Notice) : (s.raise n).tick = s.tick := rfl
@[simp] theorem State.raise_channels (s : State) (n : Notice) : (s.raise n).channels = s.channels := rfl
@[simp] theorem State.raise_qualifier (s : State) (n : Notice) : (s.raise n).qualifier = s.qualifier := rfl
@[simp] theorem State.raise_wheel (s : State) (n : Notice) : (s.raise n).wheel = s.wheel := rfl
@[simp] theorem State.raise_pairA (s : State) (n : Notice) : (s.raise n).pairA = s.pairA := rfl
@[simp] theorem State.raise_pairB (s : State) (n : Notice) : (s.raise n).pairB = s.pairB := rfl
@[simp] theorem State.raise_ftrig (s : State) (n : Notice) : (s.raise n).ftrig = s.ftrig := rfl
@[simp] theorem State.raise_iset (s : State) (n : Notice) : (s.raise n).iset = s.iset := rfl
@[simp] theorem State.raise_link (s : State) (n : Notice) : (s.raise n).link = s.link := rfl
@[simp] theorem State.raise_motion (s : State) (n : Notice) : (s.raise n).motion = s.motion := rfl
@[simp] theorem State.raise_frames (s : State) (n : Notice) : (s.raise n).frames = s.frames := rfl
@[simp] theorem State.raise_catalogue (s : State) (n : Notice) : (s.raise n).catalogue = s.catalogue := rfl
@[simp] theorem State.raise_store (s : State) (n : Notice) : (s.raise n).store = s.store := rfl
@[simp] theorem State.raise_supply (s : State) (n : Notice) : (s.raise n).supply = s.supply := rfl
@[simp] theorem State.raise_charge (s : State) (n : Notice) : (s.raise n).charge = s.charge := rfl
@[simp] theorem State.raise_gauge (s : State) (n : Notice) : (s.raise n).gauge = s.gauge := rfl
@[simp] theorem State.raise_policy (s : State) (n : Notice) : (s.raise n).policy = s.policy := rfl
@[simp] theorem State.raise_locked (s : State) (n : Notice) : (s.raise n).locked = s.locked := rfl
@[simp] theorem State.raise_pending (s : State) (n : Notice) : (s.raise n).pending = s.pending := rfl

/-! ### `refuseBusy`: the other fields -/

@[simp] theorem State.refuseBusy_tick (s : State) (p : Port) (f : Frame) : (s.refuseBusy p f).tick = s.tick := by cases p <;> rfl
@[simp] theorem State.refuseBusy_channels (s : State) (p : Port) (f : Frame) : (s.refuseBusy p f).channels = s.channels := by cases p <;> rfl
@[simp] theorem State.refuseBusy_qualifier (s : State) (p : Port) (f : Frame) : (s.refuseBusy p f).qualifier = s.qualifier := by cases p <;> rfl
@[simp] theorem State.refuseBusy_wheel (s : State) (p : Port) (f : Frame) : (s.refuseBusy p f).wheel = s.wheel := by cases p <;> rfl
@[simp] theorem State.refuseBusy_pairA (s : State) (p : Port) (f : Frame) : (s.refuseBusy p f).pairA = s.pairA := by cases p <;> rfl
@[simp] theorem State.refuseBusy_pairB (s : State) (p : Port) (f : Frame) : (s.refuseBusy p f).pairB = s.pairB := by cases p <;> rfl
@[simp] theorem State.refuseBusy_ftrig (s : State) (p : Port) (f : Frame) : (s.refuseBusy p f).ftrig = s.ftrig := by cases p <;> rfl
@[simp] theorem State.refuseBusy_iset (s : State) (p : Port) (f : Frame) : (s.refuseBusy p f).iset = s.iset := by cases p <;> rfl
@[simp] theorem State.refuseBusy_link (s : State) (p : Port) (f : Frame) : (s.refuseBusy p f).link = s.link := by cases p <;> rfl
@[simp] theorem State.refuseBusy_motion (s : State) (p : Port) (f : Frame) : (s.refuseBusy p f).motion = s.motion := by cases p <;> rfl
@[simp] theorem State.refuseBusy_frames (s : State) (p : Port) (f : Frame) : (s.refuseBusy p f).frames = s.frames := by cases p <;> rfl
@[simp] theorem State.refuseBusy_catalogue (s : State) (p : Port) (f : Frame) : (s.refuseBusy p f).catalogue = s.catalogue := by cases p <;> rfl
@[simp] theorem State.refuseBusy_store (s : State) (p : Port) (f : Frame) : (s.refuseBusy p f).store = s.store := by cases p <;> rfl
@[simp] theorem State.refuseBusy_supply (s : State) (p : Port) (f : Frame) : (s.refuseBusy p f).supply = s.supply := by cases p <;> rfl
@[simp] theorem State.refuseBusy_charge (s : State) (p : Port) (f : Frame) : (s.refuseBusy p f).charge = s.charge := by cases p <;> rfl
@[simp] theorem State.refuseBusy_gauge (s : State) (p : Port) (f : Frame) : (s.refuseBusy p f).gauge = s.gauge := by cases p <;> rfl
@[simp] theorem State.refuseBusy_policy (s : State) (p : Port) (f : Frame) : (s.refuseBusy p f).policy = s.policy := by cases p <;> rfl
@[simp] theorem State.refuseBusy_locked (s : State) (p : Port) (f : Frame) : (s.refuseBusy p f).locked = s.locked := by cases p <;> rfl
@[simp] theorem State.refuseBusy_pending (s : State) (p : Port) (f : Frame) : (s.refuseBusy p f).pending = s.pending := by cases p <;> rfl

/-! ### `take`: the other fields -/

@[simp] theorem State.take_tick (s : State) (p : Port) (c : Byte) (f : Frame) : (s.take p c f).tick = s.tick := by cases p <;> rfl
@[simp] theorem State.take_channels (s : State) (p : Port) (c : Byte) (f : Frame) : (s.take p c f).channels = s.channels := by cases p <;> rfl
@[simp] theorem State.take_qualifier (s : State) (p : Port) (c : Byte) (f : Frame) : (s.take p c f).qualifier = s.qualifier := by cases p <;> rfl
@[simp] theorem State.take_wheel (s : State) (p : Port) (c : Byte) (f : Frame) : (s.take p c f).wheel = s.wheel := by cases p <;> rfl
@[simp] theorem State.take_pairA (s : State) (p : Port) (c : Byte) (f : Frame) : (s.take p c f).pairA = s.pairA := by cases p <;> rfl
@[simp] theorem State.take_pairB (s : State) (p : Port) (c : Byte) (f : Frame) : (s.take p c f).pairB = s.pairB := by cases p <;> rfl
@[simp] theorem State.take_ftrig (s : State) (p : Port) (c : Byte) (f : Frame) : (s.take p c f).ftrig = s.ftrig := by cases p <;> rfl
@[simp] theorem State.take_iset (s : State) (p : Port) (c : Byte) (f : Frame) : (s.take p c f).iset = s.iset := by cases p <;> rfl
@[simp] theorem State.take_link (s : State) (p : Port) (c : Byte) (f : Frame) : (s.take p c f).link = s.link := by cases p <;> rfl
@[simp] theorem State.take_motion (s : State) (p : Port) (c : Byte) (f : Frame) : (s.take p c f).motion = s.motion := by cases p <;> rfl
@[simp] theorem State.take_frames (s : State) (p : Port) (c : Byte) (f : Frame) : (s.take p c f).frames = s.frames := by cases p <;> rfl
@[simp] theorem State.take_catalogue (s : State) (p : Port) (c : Byte) (f : Frame) : (s.take p c f).catalogue = s.catalogue := by cases p <;> rfl
@[simp] theorem State.take_store (s : State) (p : Port) (c : Byte) (f : Frame) : (s.take p c f).store = s.store := by cases p <;> rfl
@[simp] theorem State.take_supply (s : State) (p : Port) (c : Byte) (f : Frame) : (s.take p c f).supply = s.supply := by cases p <;> rfl
@[simp] theorem State.take_charge (s : State) (p : Port) (c : Byte) (f : Frame) : (s.take p c f).charge = s.charge := by cases p <;> rfl
@[simp] theorem State.take_gauge (s : State) (p : Port) (c : Byte) (f : Frame) : (s.take p c f).gauge = s.gauge := by cases p <;> rfl
@[simp] theorem State.take_policy (s : State) (p : Port) (c : Byte) (f : Frame) : (s.take p c f).policy = s.policy := by cases p <;> rfl
@[simp] theorem State.take_locked (s : State) (p : Port) (c : Byte) (f : Frame) : (s.take p c f).locked = s.locked := by cases p <;> rfl
@[simp] theorem State.take_pending (s : State) (p : Port) (c : Byte) (f : Frame) : (s.take p c f).pending = s.pending := by cases p <;> rfl

/-! ### `answer`: the other fields -/

@[simp] theorem State.answer_tick (s : State) (p : Port) (a : Answer) : (s.answer p a).tick = s.tick := by cases p <;> rfl
@[simp] theorem State.answer_channels (s : State) (p : Port) (a : Answer) : (s.answer p a).channels = s.channels := by cases p <;> rfl
@[simp] theorem State.answer_qualifier (s : State) (p : Port) (a : Answer) : (s.answer p a).qualifier = s.qualifier := by cases p <;> rfl
@[simp] theorem State.answer_wheel (s : State) (p : Port) (a : Answer) : (s.answer p a).wheel = s.wheel := by cases p <;> rfl
@[simp] theorem State.answer_pairA (s : State) (p : Port) (a : Answer) : (s.answer p a).pairA = s.pairA := by cases p <;> rfl
@[simp] theorem State.answer_pairB (s : State) (p : Port) (a : Answer) : (s.answer p a).pairB = s.pairB := by cases p <;> rfl
@[simp] theorem State.answer_ftrig (s : State) (p : Port) (a : Answer) : (s.answer p a).ftrig = s.ftrig := by cases p <;> rfl
@[simp] theorem State.answer_iset (s : State) (p : Port) (a : Answer) : (s.answer p a).iset = s.iset := by cases p <;> rfl
@[simp] theorem State.answer_link (s : State) (p : Port) (a : Answer) : (s.answer p a).link = s.link := by cases p <;> rfl
@[simp] theorem State.answer_motion (s : State) (p : Port) (a : Answer) : (s.answer p a).motion = s.motion := by cases p <;> rfl
@[simp] theorem State.answer_frames (s : State) (p : Port) (a : Answer) : (s.answer p a).frames = s.frames := by cases p <;> rfl
@[simp] theorem State.answer_catalogue (s : State) (p : Port) (a : Answer) : (s.answer p a).catalogue = s.catalogue := by cases p <;> rfl
@[simp] theorem State.answer_store (s : State) (p : Port) (a : Answer) : (s.answer p a).store = s.store := by cases p <;> rfl
@[simp] theorem State.answer_supply (s : State) (p : Port) (a : Answer) : (s.answer p a).supply = s.supply := by cases p <;> rfl
@[simp] theorem State.answer_charge (s : State) (p : Port) (a : Answer) : (s.answer p a).charge = s.charge := by cases p <;> rfl
@[simp] theorem State.answer_gauge (s : State) (p : Port) (a : Answer) : (s.answer p a).gauge = s.gauge := by cases p <;> rfl
@[simp] theorem State.answer_policy (s : State) (p : Port) (a : Answer) : (s.answer p a).policy = s.policy := by cases p <;> rfl
@[simp] theorem State.answer_locked (s : State) (p : Port) (a : Answer) : (s.answer p a).locked = s.locked := by cases p <;> rfl
@[simp] theorem State.answer_pending (s : State) (p : Port) (a : Answer) : (s.answer p a).pending = s.pending := by cases p <;> rfl

/-! ### `finish`: the other fields -/

@[simp] theorem State.finish_tick (s : State) (p : Port) (a : Answer) : (s.finish p a).tick = s.tick := by cases p <;> rfl
@[simp] theorem State.finish_channels (s : State) (p : Port) (a : Answer) : (s.finish p a).channels = s.channels := by cases p <;> rfl
@[simp] theorem State.finish_qualifier (s : State) (p : Port) (a : Answer) : (s.finish p a).qualifier = s.qualifier := by cases p <;> rfl
@[simp] theorem State.finish_wheel (s : State) (p : Port) (a : Answer) : (s.finish p a).wheel = s.wheel := by cases p <;> rfl
@[simp] theorem State.finish_pairA (s : State) (p : Port) (a : Answer) : (s.finish p a).pairA = s.pairA := by cases p <;> rfl
@[simp] theorem State.finish_pairB (s : State) (p : Port) (a : Answer) : (s.finish p a).pairB = s.pairB := by cases p <;> rfl
@[simp] theorem State.finish_ftrig (s : State) (p : Port) (a : Answer) : (s.finish p a).ftrig = s.ftrig := by cases p <;> rfl
@[simp] theorem State.finish_iset (s : State) (p : Port) (a : Answer) : (s.finish p a).iset = s.iset := by cases p <;> rfl
@[simp] theorem State.finish_link (s : State) (p : Port) (a : Answer) : (s.finish p a).link = s.link := by cases p <;> rfl
@[simp] theorem State.finish_motion (s : State) (p : Port) (a : Answer) : (s.finish p a).motion = s.motion := by cases p <;> rfl
@[simp] theorem State.finish_frames (s : State) (p : Port) (a : Answer) : (s.finish p a).frames = s.frames := by cases p <;> rfl
@[simp] theorem State.finish_catalogue (s : State) (p : Port) (a : Answer) : (s.finish p a).catalogue = s.catalogue := by cases p <;> rfl
@[simp] theorem State.finish_store (s : State) (p : Port) (a : Answer) : (s.finish p a).store = s.store := by cases p <;> rfl
@[simp] theorem State.finish_supply (s : State) (p : Port) (a : Answer) : (s.finish p a).supply = s.supply := by cases p <;> rfl
@[simp] theorem State.finish_charge (s : State) (p : Port) (a : Answer) : (s.finish p a).charge = s.charge := by cases p <;> rfl
@[simp] theorem State.finish_gauge (s : State) (p : Port) (a : Answer) : (s.finish p a).gauge = s.gauge := by cases p <;> rfl
@[simp] theorem State.finish_policy (s : State) (p : Port) (a : Answer) : (s.finish p a).policy = s.policy := by cases p <;> rfl
@[simp] theorem State.finish_locked (s : State) (p : Port) (a : Answer) : (s.finish p a).locked = s.locked := by cases p <;> rfl
@[simp] theorem State.finish_pending (s : State) (p : Port) (a : Answer) : (s.finish p a).pending = s.pending := by cases p <;> rfl

/-! ### `replied`: the other fields -/

@[simp] theorem State.replied_tick (s : State) (p : Port) (f : Frame) (a : Answer) : (s.replied p f a).tick = s.tick := by cases p <;> rfl
@[simp] theorem State.replied_channels (s : State) (p : Port) (f : Frame) (a : Answer) : (s.replied p f a).channels = s.channels := by cases p <;> rfl
@[simp] theorem State.replied_qualifier (s : State) (p : Port) (f : Frame) (a : Answer) : (s.replied p f a).qualifier = s.qualifier := by cases p <;> rfl
@[simp] theorem State.replied_wheel (s : State) (p : Port) (f : Frame) (a : Answer) : (s.replied p f a).wheel = s.wheel := by cases p <;> rfl
@[simp] theorem State.replied_pairA (s : State) (p : Port) (f : Frame) (a : Answer) : (s.replied p f a).pairA = s.pairA := by cases p <;> rfl
@[simp] theorem State.replied_pairB (s : State) (p : Port) (f : Frame) (a : Answer) : (s.replied p f a).pairB = s.pairB := by cases p <;> rfl
@[simp] theorem State.replied_ftrig (s : State) (p : Port) (f : Frame) (a : Answer) : (s.replied p f a).ftrig = s.ftrig := by cases p <;> rfl
@[simp] theorem State.replied_iset (s : State) (p : Port) (f : Frame) (a : Answer) : (s.replied p f a).iset = s.iset := by cases p <;> rfl
@[simp] theorem State.replied_link (s : State) (p : Port) (f : Frame) (a : Answer) : (s.replied p f a).link = s.link := by cases p <;> rfl
@[simp] theorem State.replied_motion (s : State) (p : Port) (f : Frame) (a : Answer) : (s.replied p f a).motion = s.motion := by cases p <;> rfl
@[simp] theorem State.replied_frames (s : State) (p : Port) (f : Frame) (a : Answer) : (s.replied p f a).frames = s.frames := by cases p <;> rfl
@[simp] theorem State.replied_catalogue (s : State) (p : Port) (f : Frame) (a : Answer) : (s.replied p f a).catalogue = s.catalogue := by cases p <;> rfl
@[simp] theorem State.replied_store (s : State) (p : Port) (f : Frame) (a : Answer) : (s.replied p f a).store = s.store := by cases p <;> rfl
@[simp] theorem State.replied_supply (s : State) (p : Port) (f : Frame) (a : Answer) : (s.replied p f a).supply = s.supply := by cases p <;> rfl
@[simp] theorem State.replied_charge (s : State) (p : Port) (f : Frame) (a : Answer) : (s.replied p f a).charge = s.charge := by cases p <;> rfl
@[simp] theorem State.replied_gauge (s : State) (p : Port) (f : Frame) (a : Answer) : (s.replied p f a).gauge = s.gauge := by cases p <;> rfl
@[simp] theorem State.replied_policy (s : State) (p : Port) (f : Frame) (a : Answer) : (s.replied p f a).policy = s.policy := by cases p <;> rfl
@[simp] theorem State.replied_locked (s : State) (p : Port) (f : Frame) (a : Answer) : (s.replied p f a).locked = s.locked := by cases p <;> rfl
@[simp] theorem State.replied_pending (s : State) (p : Port) (f : Frame) (a : Answer) : (s.replied p f a).pending = s.pending := by cases p <;> rfl

/-! ### `capture`: the other fields -/

@[simp] theorem State.capture_tick (s : State) (ch : Channel) (t : Tick) : (s.capture ch t).tick = s.tick := rfl
@[simp] theorem State.capture_qualifier (s : State) (ch : Channel) (t : Tick) : (s.capture ch t).qualifier = s.qualifier := rfl
@[simp] theorem State.capture_wheel (s : State) (ch : Channel) (t : Tick) : (s.capture ch t).wheel = s.wheel := rfl
@[simp] theorem State.capture_pairA (s : State) (ch : Channel) (t : Tick) : (s.capture ch t).pairA = s.pairA := rfl
@[simp] theorem State.capture_pairB (s : State) (ch : Channel) (t : Tick) : (s.capture ch t).pairB = s.pairB := rfl
@[simp] theorem State.capture_ftrig (s : State) (ch : Channel) (t : Tick) : (s.capture ch t).ftrig = s.ftrig := rfl
@[simp] theorem State.capture_iset (s : State) (ch : Channel) (t : Tick) : (s.capture ch t).iset = s.iset := rfl
@[simp] theorem State.capture_link (s : State) (ch : Channel) (t : Tick) : (s.capture ch t).link = s.link := rfl
@[simp] theorem State.capture_motion (s : State) (ch : Channel) (t : Tick) : (s.capture ch t).motion = s.motion := rfl
@[simp] theorem State.capture_frames (s : State) (ch : Channel) (t : Tick) : (s.capture ch t).frames = s.frames := rfl
@[simp] theorem State.capture_catalogue (s : State) (ch : Channel) (t : Tick) : (s.capture ch t).catalogue = s.catalogue := rfl
@[simp] theorem State.capture_store (s : State) (ch : Channel) (t : Tick) : (s.capture ch t).store = s.store := rfl
@[simp] theorem State.capture_supply (s : State) (ch : Channel) (t : Tick) : (s.capture ch t).supply = s.supply := rfl
@[simp] theorem State.capture_charge (s : State) (ch : Channel) (t : Tick) : (s.capture ch t).charge = s.charge := rfl
@[simp] theorem State.capture_gauge (s : State) (ch : Channel) (t : Tick) : (s.capture ch t).gauge = s.gauge := rfl
@[simp] theorem State.capture_portA (s : State) (ch : Channel) (t : Tick) : (s.capture ch t).portA = s.portA := rfl
@[simp] theorem State.capture_portB (s : State) (ch : Channel) (t : Tick) : (s.capture ch t).portB = s.portB := rfl
@[simp] theorem State.capture_policy (s : State) (ch : Channel) (t : Tick) : (s.capture ch t).policy = s.policy := rfl
@[simp] theorem State.capture_locked (s : State) (ch : Channel) (t : Tick) : (s.capture ch t).locked = s.locked := rfl
@[simp] theorem State.capture_pending (s : State) (ch : Channel) (t : Tick) : (s.capture ch t).pending = s.pending := rfl

/-! ### `emptied`: the other fields -/

@[simp] theorem State.emptied_tick (s : State) (ch : Channel) : (s.emptied ch).tick = s.tick := rfl
@[simp] theorem State.emptied_qualifier (s : State) (ch : Channel) : (s.emptied ch).qualifier = s.qualifier := rfl
@[simp] theorem State.emptied_wheel (s : State) (ch : Channel) : (s.emptied ch).wheel = s.wheel := rfl
@[simp] theorem State.emptied_pairA (s : State) (ch : Channel) : (s.emptied ch).pairA = s.pairA := rfl
@[simp] theorem State.emptied_pairB (s : State) (ch : Channel) : (s.emptied ch).pairB = s.pairB := rfl
@[simp] theorem State.emptied_ftrig (s : State) (ch : Channel) : (s.emptied ch).ftrig = s.ftrig := rfl
@[simp] theorem State.emptied_iset (s : State) (ch : Channel) : (s.emptied ch).iset = s.iset := rfl
@[simp] theorem State.emptied_link (s : State) (ch : Channel) : (s.emptied ch).link = s.link := rfl
@[simp] theorem State.emptied_motion (s : State) (ch : Channel) : (s.emptied ch).motion = s.motion := rfl
@[simp] theorem State.emptied_frames (s : State) (ch : Channel) : (s.emptied ch).frames = s.frames := rfl
@[simp] theorem State.emptied_catalogue (s : State) (ch : Channel) : (s.emptied ch).catalogue = s.catalogue := rfl
@[simp] theorem State.emptied_store (s : State) (ch : Channel) : (s.emptied ch).store = s.store := rfl
@[simp] theorem State.emptied_supply (s : State) (ch : Channel) : (s.emptied ch).supply = s.supply := rfl
@[simp] theorem State.emptied_charge (s : State) (ch : Channel) : (s.emptied ch).charge = s.charge := rfl
@[simp] theorem State.emptied_gauge (s : State) (ch : Channel) : (s.emptied ch).gauge = s.gauge := rfl
@[simp] theorem State.emptied_portA (s : State) (ch : Channel) : (s.emptied ch).portA = s.portA := rfl
@[simp] theorem State.emptied_portB (s : State) (ch : Channel) : (s.emptied ch).portB = s.portB := rfl
@[simp] theorem State.emptied_policy (s : State) (ch : Channel) : (s.emptied ch).policy = s.policy := rfl
@[simp] theorem State.emptied_locked (s : State) (ch : Channel) : (s.emptied ch).locked = s.locked := rfl
@[simp] theorem State.emptied_pending (s : State) (ch : Channel) : (s.emptied ch).pending = s.pending := rfl

/-! ### `onBus`: the other fields -/

@[simp] theorem State.onBus_tick (s : State) (b : Bus) : (s.onBus b).tick = s.tick := rfl
@[simp] theorem State.onBus_channels (s : State) (b : Bus) : (s.onBus b).channels = s.channels := rfl
@[simp] theorem State.onBus_qualifier (s : State) (b : Bus) : (s.onBus b).qualifier = s.qualifier := rfl
@[simp] theorem State.onBus_wheel (s : State) (b : Bus) : (s.onBus b).wheel = s.wheel := rfl
@[simp] theorem State.onBus_pairA (s : State) (b : Bus) : (s.onBus b).pairA = s.pairA := rfl
@[simp] theorem State.onBus_pairB (s : State) (b : Bus) : (s.onBus b).pairB = s.pairB := rfl
@[simp] theorem State.onBus_ftrig (s : State) (b : Bus) : (s.onBus b).ftrig = s.ftrig := rfl
@[simp] theorem State.onBus_iset (s : State) (b : Bus) : (s.onBus b).iset = s.iset := rfl
@[simp] theorem State.onBus_motion (s : State) (b : Bus) : (s.onBus b).motion = s.motion := rfl
@[simp] theorem State.onBus_frames (s : State) (b : Bus) : (s.onBus b).frames = s.frames := rfl
@[simp] theorem State.onBus_catalogue (s : State) (b : Bus) : (s.onBus b).catalogue = s.catalogue := rfl
@[simp] theorem State.onBus_store (s : State) (b : Bus) : (s.onBus b).store = s.store := rfl
@[simp] theorem State.onBus_supply (s : State) (b : Bus) : (s.onBus b).supply = s.supply := rfl
@[simp] theorem State.onBus_charge (s : State) (b : Bus) : (s.onBus b).charge = s.charge := rfl
@[simp] theorem State.onBus_gauge (s : State) (b : Bus) : (s.onBus b).gauge = s.gauge := rfl
@[simp] theorem State.onBus_portA (s : State) (b : Bus) : (s.onBus b).portA = s.portA := rfl
@[simp] theorem State.onBus_portB (s : State) (b : Bus) : (s.onBus b).portB = s.portB := rfl
@[simp] theorem State.onBus_policy (s : State) (b : Bus) : (s.onBus b).policy = s.policy := rfl
@[simp] theorem State.onBus_locked (s : State) (b : Bus) : (s.onBus b).locked = s.locked := rfl
@[simp] theorem State.onBus_pending (s : State) (b : Bus) : (s.onBus b).pending = s.pending := rfl

/-! ### `setGen`: the other fields -/

@[simp] theorem State.setGen_tick (s : State) (g : GenId) (x : Generator) : (s.setGen g x).tick = s.tick := by cases g <;> rfl
@[simp] theorem State.setGen_channels (s : State) (g : GenId) (x : Generator) : (s.setGen g x).channels = s.channels := by cases g <;> rfl
@[simp] theorem State.setGen_qualifier (s : State) (g : GenId) (x : Generator) : (s.setGen g x).qualifier = s.qualifier := by cases g <;> rfl
@[simp] theorem State.setGen_wheel (s : State) (g : GenId) (x : Generator) : (s.setGen g x).wheel = s.wheel := by cases g <;> rfl
@[simp] theorem State.setGen_pairA (s : State) (g : GenId) (x : Generator) : (s.setGen g x).pairA = s.pairA := by cases g <;> rfl
@[simp] theorem State.setGen_pairB (s : State) (g : GenId) (x : Generator) : (s.setGen g x).pairB = s.pairB := by cases g <;> rfl
@[simp] theorem State.setGen_link (s : State) (g : GenId) (x : Generator) : (s.setGen g x).link = s.link := by cases g <;> rfl
@[simp] theorem State.setGen_motion (s : State) (g : GenId) (x : Generator) : (s.setGen g x).motion = s.motion := by cases g <;> rfl
@[simp] theorem State.setGen_frames (s : State) (g : GenId) (x : Generator) : (s.setGen g x).frames = s.frames := by cases g <;> rfl
@[simp] theorem State.setGen_catalogue (s : State) (g : GenId) (x : Generator) : (s.setGen g x).catalogue = s.catalogue := by cases g <;> rfl
@[simp] theorem State.setGen_store (s : State) (g : GenId) (x : Generator) : (s.setGen g x).store = s.store := by cases g <;> rfl
@[simp] theorem State.setGen_supply (s : State) (g : GenId) (x : Generator) : (s.setGen g x).supply = s.supply := by cases g <;> rfl
@[simp] theorem State.setGen_charge (s : State) (g : GenId) (x : Generator) : (s.setGen g x).charge = s.charge := by cases g <;> rfl
@[simp] theorem State.setGen_gauge (s : State) (g : GenId) (x : Generator) : (s.setGen g x).gauge = s.gauge := by cases g <;> rfl
@[simp] theorem State.setGen_portA (s : State) (g : GenId) (x : Generator) : (s.setGen g x).portA = s.portA := by cases g <;> rfl
@[simp] theorem State.setGen_portB (s : State) (g : GenId) (x : Generator) : (s.setGen g x).portB = s.portB := by cases g <;> rfl
@[simp] theorem State.setGen_policy (s : State) (g : GenId) (x : Generator) : (s.setGen g x).policy = s.policy := by cases g <;> rfl
@[simp] theorem State.setGen_locked (s : State) (g : GenId) (x : Generator) : (s.setGen g x).locked = s.locked := by cases g <;> rfl
@[simp] theorem State.setGen_pending (s : State) (g : GenId) (x : Generator) : (s.setGen g x).pending = s.pending := by cases g <;> rfl

/-! ### `mapClips`: the other fields -/

@[simp] theorem State.mapClips_tick (s : State) (f : Clip → Clip) : (s.mapClips f).tick = s.tick := rfl
@[simp] theorem State.mapClips_channels (s : State) (f : Clip → Clip) : (s.mapClips f).channels = s.channels := rfl
@[simp] theorem State.mapClips_qualifier (s : State) (f : Clip → Clip) : (s.mapClips f).qualifier = s.qualifier := rfl
@[simp] theorem State.mapClips_wheel (s : State) (f : Clip → Clip) : (s.mapClips f).wheel = s.wheel := rfl
@[simp] theorem State.mapClips_pairA (s : State) (f : Clip → Clip) : (s.mapClips f).pairA = s.pairA := rfl
@[simp] theorem State.mapClips_pairB (s : State) (f : Clip → Clip) : (s.mapClips f).pairB = s.pairB := rfl
@[simp] theorem State.mapClips_ftrig (s : State) (f : Clip → Clip) : (s.mapClips f).ftrig = s.ftrig := rfl
@[simp] theorem State.mapClips_iset (s : State) (f : Clip → Clip) : (s.mapClips f).iset = s.iset := rfl
@[simp] theorem State.mapClips_link (s : State) (f : Clip → Clip) : (s.mapClips f).link = s.link := rfl
@[simp] theorem State.mapClips_motion (s : State) (f : Clip → Clip) : (s.mapClips f).motion = s.motion := rfl
@[simp] theorem State.mapClips_frames (s : State) (f : Clip → Clip) : (s.mapClips f).frames = s.frames := rfl
@[simp] theorem State.mapClips_store (s : State) (f : Clip → Clip) : (s.mapClips f).store = s.store := rfl
@[simp] theorem State.mapClips_supply (s : State) (f : Clip → Clip) : (s.mapClips f).supply = s.supply := rfl
@[simp] theorem State.mapClips_charge (s : State) (f : Clip → Clip) : (s.mapClips f).charge = s.charge := rfl
@[simp] theorem State.mapClips_gauge (s : State) (f : Clip → Clip) : (s.mapClips f).gauge = s.gauge := rfl
@[simp] theorem State.mapClips_portA (s : State) (f : Clip → Clip) : (s.mapClips f).portA = s.portA := rfl
@[simp] theorem State.mapClips_portB (s : State) (f : Clip → Clip) : (s.mapClips f).portB = s.portB := rfl
@[simp] theorem State.mapClips_policy (s : State) (f : Clip → Clip) : (s.mapClips f).policy = s.policy := rfl
@[simp] theorem State.mapClips_locked (s : State) (f : Clip → Clip) : (s.mapClips f).locked = s.locked := rfl
@[simp] theorem State.mapClips_pending (s : State) (f : Clip → Clip) : (s.mapClips f).pending = s.pending := rfl

end Sys2Proof.Machine
end

