-- ==== Sys2Proof/Laws/Ops.lean ====
section
/-! SUPPORT. One lemma for each shared operation that says what it answers, which later proofs cite in place of
unfolding it. -/

namespace Sys2Proof.Machine

/-! ### Commands -/

theorem State.whenPowered_on {s : State} (f : State → State) (h : s.store.vsys = true) :
    s.whenPowered f = .next (f s) := by
  simp [State.whenPowered, h]

theorem State.whenPowered_off {s : State} (f : State → State) (h : s.store.vsys = false) :
    s.whenPowered f = .next s := by
  simp [State.whenPowered, h]

theorem State.event_taken {s : State} {cond : State → Bool} (f : State → State) (h : s.store.vsys = true)
    (hc : cond s = true) : State.event cond f s = .next (f s) := by
  simp [State.event, State.whenPowered, h, hc]

theorem State.event_skipped {s : State} {cond : State → Bool} (f : State → State) (hc : cond s = false) :
    State.event cond f s = .next s := by
  simp [State.event, State.whenPowered, hc]

/-- A command under `whenPowered` always completes, with `f s` or with `s`. -/
theorem State.whenPowered_next (f : State → State) (s : State) :
    s.whenPowered f = .next (f s) ∨ s.whenPowered f = .next s := by
  cases h : s.store.vsys
  · exact .inr (whenPowered_off f h)
  · exact .inl (whenPowered_on f h)

theorem State.due_iff (s : State) (t : Timer) : s.due t = true ↔ t = some s.tick := by
  simp [State.due]

/-! ### Requests -/

@[simp] theorem State.settle_done (p : Port) (k : Kind) (s : State) (st : Status) (b : List Byte) :
    State.settle p k (s, .done st b) = s.answer p (reply st k b) := rfl

@[simp] theorem State.settle_inFlight (p : Port) (k : Kind) (s : State) :
    State.settle p k (s, .inFlight) = s := rfl

@[simp] theorem State.take_answer (s : State) (p : Port) (c : Byte) (f : Frame) (a : Answer) :
    (s.take p c f).answer p a = s.replied p f a := by
  cases p <;> rfl

@[simp] theorem State.take_policy_allowed (s : State) (p q : Port) (c : Byte) (f : Frame) (k : Kind) :
    (s.take p c f).allowed q k = s.allowed q k := by
  cases p <;> rfl

@[simp] theorem State.take_precheck (s : State) (p q : Port) (c : Byte) (f g : Frame) (k : Kind) :
    (s.take p c f).precheck q k g = s.precheck q k g := by
  cases p <;> rfl

/-- A request that passes every check of R194 acts by its own rule on the state that has taken it. -/
theorem State.doRequest_admitted {s : State} {p : Port} {k : Kind} {f : Frame}
    (act : Port → List Byte → State → State × Reply) (h : s.Admits p k f) :
    s.doRequest k act p f = .next (State.settle p k (act p f.body (s.take p (Kind.code k) f))) := by
  obtain ⟨hv, hw, hp⟩ := h
  simp [State.doRequest, State.whenPowered, State.request, hv, hw, hp]

theorem State.doRequest_busy {s : State} {p : Port} {k : Kind} (act : Port → List Byte → State → State × Reply)
    (f : Frame) (hv : s.store.vsys = true) (hw : (s.port p).met f.began = .working) :
    s.doRequest k act p f = .next (s.refuseBusy p f) := by
  simp [State.doRequest, State.whenPowered, State.request, hv, hw]

theorem State.doRequest_refused {s : State} {p : Port} {k : Kind} {f : Frame} {st : Status}
    (act : Port → List Byte → State → State × Reply) (hv : s.store.vsys = true)
    (hw : (s.port p).met f.began ≠ .working) (hp : s.precheck p k f = some st) :
    s.doRequest k act p f = .next (s.replied p f (reply st k [])) := by
  simp [State.doRequest, State.whenPowered, State.request, hv, hw, hp]

theorem State.doRequest_unpowered {s : State} {p : Port} {k : Kind} {f : Frame}
    (act : Port → List Byte → State → State × Reply) (hv : s.store.vsys = false) :
    s.doRequest k act p f = .next s := by
  simp [State.doRequest, State.whenPowered, hv]

/-- R194, step 2. -/
theorem Frame.lengthOk_iff (f : Frame) (k : Kind) :
    Frame.lengthOk f k = true ↔ ∃ l, f.len = some l ∧ l.toNat = k.bodyLen ∧ f.body.length = k.bodyLen := by
  unfold Frame.lengthOk
  cases f.len with
  | none => simp
  | some l => simp; omega

/-! ### What a transfer met -/

/-- R189: a slot that is WORKING now was met WORKING. -/
@[simp] theorem PortState.met_of_working {x : PortState} (b : Began) (h : x.slot.state = .working) :
    x.met b = .working := by
  cases b <;> simp [PortState.met, h]

/-- R189: a slot with no change since the latest transfer was met as it is. -/
@[simp] theorem PortState.met_unchanged {x : PortState} (b : Began) (h : x.earlier = Earlier.none) :
    x.met b = x.slot.state := by
  cases b <;> simp [PortState.met, h, Earlier.none]

theorem PortState.not_working_of_met {x : PortState} {b : Began} (h : x.met b ≠ .working) :
    x.slot.state ≠ .working := fun hw => h (met_of_working b hw)

@[simp] theorem PortState.change_slot (x : PortState) (new : Slot) : (x.change new).slot = new := rfl

@[simp] theorem PortState.change_takings (x : PortState) (new : Slot) : (x.change new).takings = x.takings := rfl

@[simp] theorem PortState.change_sent (x : PortState) (new : Slot) : (x.change new).sent = x.sent := rfl

@[simp] theorem PortState.change_notices (x : PortState) (new : Slot) : (x.change new).notices = x.notices := rfl

@[simp] theorem PortState.change_mask (x : PortState) (new : Slot) : (x.change new).mask = x.mask := rfl

@[simp] theorem PortState.change_attn (x : PortState) (new : Slot) : (x.change new).attn = x.attn := rfl

/-! ### Requests in flight -/

theorem State.complete_own {s : State} {t : Ticket} {c : Byte} (st : Status) (b : List Byte)
    (h : (s.port t.port).slot = .working c t.taking) :
    s.complete t st b = s.finish t.port { status := st, kind := c, body := b } := by
  simp [State.complete, h]

/-- R191: a completion whose request has been abandoned changes nothing. -/
theorem State.complete_abandoned {s : State} {t : Ticket} (st : Status) (b : List Byte)
    (h : ∀ c, (s.port t.port).slot ≠ .working c t.taking) : s.complete t st b = s := by
  unfold State.complete
  split
  · rename_i c n hs
    split
    · rename_i hn; exact absurd (hn ▸ hs) (h c)
    · rfl
  · rfl

/-- A completion answers its own request or changes nothing. -/
theorem State.complete_cases (s : State) (t : Ticket) (st : Status) (b : List Byte) :
    s.complete t st b = s ∨ ∃ c, (s.port t.port).slot = .working c t.taking
      ∧ s.complete t st b = s.finish t.port { status := st, kind := c, body := b } := by
  by_cases h : ∃ c, (s.port t.port).slot = .working c t.taking
  · obtain ⟨c, hc⟩ := h; exact .inr ⟨c, hc, complete_own st b hc⟩
  · exact .inl (complete_abandoned st b fun c hc => h ⟨c, hc⟩)

/-! ### Charge state -/

/-- R166: a change to the present state is no change. -/
@[simp] theorem State.toCharge_same (s : State) : s.toCharge s.charge.state = s := by
  simp [State.toCharge]

/-! ### Catalogue -/

theorem Catalogue.onClip_clips (c : Catalogue) (n : Nat) (f : Clip → Clip) :
    (c.onClip n f).clips = c.clips.map fun x => if x.number = n then f x else x := rfl

@[simp] theorem Catalogue.onClip_length (c : Catalogue) (n : Nat) (f : Clip → Clip) :
    (c.onClip n f).clips.length = c.clips.length := by
  simp [Catalogue.onClip]

theorem Catalogue.openClip_mem {c : Catalogue} {x : Clip} (h : c.openClip = some x) :
    x ∈ c.clips ∧ x.state = .opened := by
  have := List.find?_some h
  exact ⟨List.mem_of_find?_eq_some h, by simpa using this⟩

theorem Catalogue.openClip_none_iff (c : Catalogue) :
    c.openClip = none ↔ ∀ x ∈ c.clips, x.state ≠ .opened := by
  simp [Catalogue.openClip]

theorem Catalogue.clip_mem {c : Catalogue} {n : Nat} {x : Clip} (h : c.clip n = some x) :
    x ∈ c.clips ∧ x.number = n := by
  have := List.find?_some h
  exact ⟨List.mem_of_find?_eq_some h, by simpa using this⟩

end Sys2Proof.Machine
end

