-- ==== Sys2Proof/WellFormed.lean ====
section
/-! DEFINITION. Which terms are commands the world can send: the few combinations of operands that no
transfer can produce. -/

namespace Sys2Proof

/-- R188: a request transfer that ends before its body-length byte is complete carries no body byte. -/
def Frame.wf (f : Frame) : Bool := f.len.isSome || f.body.isEmpty

/-- R188: on Port A a kind byte of 0x00 makes a fetch transfer, not a request transfer. -/
def requestByteWf (p : Port) (kind : Byte) : Bool := !(p = .a && kind = 0)

/-- The well-formed commands. An UNKNOWN_KIND names no kind (R194, step 1); the band of a
BAND_DEADLINE_EXPIRY is one of at most sixteen (R61). -/
def Instr.wf : Instr → Bool
  | .unknownKind p kind f => requestByteWf p kind && !Kind.known kind && f.wf
  | .busyRefusal p kind f => requestByteWf p kind && f.wf
  | .bandDeadlineExpiry _ band => decide (band < 16)
  | .softReset _ f | .timeRead _ f | .timePair _ f | .wheelSet _ f | .wheelRead _ f => f.wf
  | .imuLinkSet _ f | .imuBankWrite _ f | .imuBankRead _ f | .imuStart _ f | .imuStop _ f => f.wf
  | .imuAccess _ f | .imuStatus _ f | .biasSet _ f | .motionSet _ f | .motionRead _ f => f.wf
  | .lensSet _ f | .frameStart _ f | .frameStop _ f | .corrRead _ f | .frameStatus _ f => f.wf
  | .cardSet _ f | .formatCatalogue _ f | .clipOpen _ f | .clipReserve _ f | .clipProgress _ f => f.wf
  | .clipClose _ f | .clipDeleted _ f | .clipProtect _ f | .clipUnprotect _ f | .clipForget _ f => f.wf
  | .clipRead _ f | .clipList _ f | .cardRead _ f | .markUser _ f | .markRead _ f => f.wf
  | .recoveryRead _ f | .recoveryClear _ f | .supplySet _ f | .railOn _ f _ | .railOff _ f => f.wf
  | .supplyRead _ f | .chargeSet _ f | .chargeEnable _ f | .powerTableSet _ f | .powerClass _ f => f.wf
  | .faultClear _ f | .chargeRead _ f | .gaugeSet _ f | .gaugeRead _ f | .noticeRead _ f => f.wf
  | .noticeMask _ f | .policySet _ f | .policyLock _ f | .identify _ f => f.wf
  | .por _ _ | .vsysLoss | .retentionLoss | .syncCapture _ | .pairingTimeout _ | .wheelRawChange _ => true
  | .wheelQualification | .stopTimerExpiry | .generatorPeriodStart _ | .generatorWidthEnd _ => true
  | .startupExpiry | .identityReadComplete _ | .bankWriteComplete | .verifyReadComplete _ => true
  | .recoveryExpiry | .drdyCapture | .sampleBurstComplete _ | .stallExpiry | .passThroughComplete _ => true
  | .watchTimerExpiry | .windowExpiry | .fstCapture | .fenCapture | .comparatorFall | .comparatorRise => true
  | .measurementRound _ _ | .presentQualificationExpiry | .rideThroughExpiry => true
  | .batteryLowDebounceExpiry | .holdExpiry | .mrailPgRise | .rampTimeout | .qualificationExpiry => true
  | .fetch _ _ | .tickCounterAdvance => true

end Sys2Proof
end

