-- ==== Sys2Proof/Tests/Slice0.lean ====
section
/-! SUPPORT. The package's own tests: ill-formed commands that the check refuses, single steps on small states,
and for each statement with hypotheses a state and operands that meet them (`witness_…`). -/

namespace Sys2Proof.Tests

open Sys2Proof.Machine

/-! ### Small states and frames -/

/-- The next state of an outcome. -/
def after (o : Out) : Option State :=
  match o with
  | .next s => some s
  | _ => none

/-- The part after reset. -/
def base : State := State.reset

/-- A complete request frame with these body bytes. -/
def fr (bs : List Nat) : Frame :=
  { len := some (BitVec.ofNat 8 bs.length), body := bs.map (BitVec.ofNat 8), began := .now }

/-- A complete request frame with `n` zero bytes. -/
def zs (n : Nat) : Frame := fr (List.replicate n 0)

/-- A clip record with a number and a state. -/
def clipIn (n : Nat) (st : ClipState) : Clip :=
  { number := n, state := st, protection := .none, start := { epoch := 0, tick := 5 }, startFrame := none
    ending := if st = .opened then none else some { epoch := 0, tick := 9 }
    committed := 10, reserved := if st = .opened then 4 else 0, frameCount := none, staleBands := 0
    pinnedBands := 0, marks := [], truncated := false
    cutCause := if st = .cut then some .forced else none }

/-- A part that holds these records on a card of 100 units. -/
def holding (xs : List Clip) : State :=
  { base with catalogue :=
      { card := { serial := 7, capacity := 100, loop := true, floor := 0 }, clips := xs, reservation := none
        nextClip := 9 } }

/-- A part with clip 3 OPEN behind clip 2 CLOSED. -/
def recording : State := holding [clipIn 2 .closed, clipIn 3 .opened]

/-- The part with its write gate closed. -/
def shut (s : State) : State := { s with store := { s.store with gate := .closed } }

/-- The part with the link in a state, with something on the bus. -/
def linkIn (st : LinkState) (b : Bus) : State := { base with link := { base.link with state := st, bus := b } }

/-- The part with the supply record changed. -/
def supplied (f : Supply → Supply) : State := { base with supply := f base.supply }

/-- The part with the charge record changed. -/
def charged (f : Charge → Charge) : State := { base with charge := f base.charge }

/-- The part with the motion record changed. -/
def moved (f : Motion → Motion) : State := { base with motion := f base.motion }

/-- The part with the frames record changed. -/
def framed (f : Frames → Frames) : State := { base with frames := f base.frames }

/-- A port's slot set. -/
def slotted (p : Port) (x : Slot) : State := base.setPort p { base.port p with slot := x }

/-- A sample with everything 0. -/
def still : Sample := { tick := 100, gyro := ⟨0, 0, 0⟩, accel := ⟨0, 0, 0⟩, first := false }

/-- A measurement table. -/
def meas (vin vbat : Nat) : MeasTable :=
  { tick := 512, vin := vin, iin := 100, vbat := vbat, ibat := 50, tbat := 2432, vbkp := 3000 }

/-- An open frame with its window due at tick 0. -/
def window : CurFrame := { trigger := 0, window := some 0, sn := none, fenTaken := false }

/-- A shock mark of a peak. -/
def shock (peak : Nat) : Mark := { kind := .shock, time := { epoch := 0, tick := 3 }, peak := some peak, band := 0 }

/-! ### Ill-formed commands -/

theorem test_wf_accepts : Instr.wf (.unknownKind .b 0xF0 (zs 2)) = true ∧ Instr.wf (.timeRead .a (zs 0)) = true
    ∧ Instr.wf (.busyRefusal .a 0x10 (zs 0)) = true ∧ Instr.wf (.bandDeadlineExpiry 3 15) = true := by decide

theorem test_wf_refuses_a_known_kind : Instr.wf (.unknownKind .b 0x10 (zs 0)) = false := by decide

theorem test_wf_refuses_kind_byte_zero_on_port_a :
    Instr.wf (.unknownKind .a 0 (zs 0)) = false ∧ Instr.wf (.busyRefusal .a 0 (zs 0)) = false := by decide

theorem test_wf_refuses_a_body_without_its_length :
    Instr.wf (.timeRead .a { len := none, body := [1], began := .now }) = false
    ∧ Instr.wf (.busyRefusal .b 0x10 { len := none, body := [1], began := .now }) = false := by decide

theorem test_wf_refuses_band_sixteen : Instr.wf (.bandDeadlineExpiry 0 16) = false := by decide

/-! ### Single steps -/

theorem test_kind_codes_distinct : (Kind.all.map Kind.code).Nodup ∧ Kind.all.length = 54 := by decide

theorem test_por_of_a_new_board :
    after (exec (.por 5000 .low) { base with store := { base.store with vsys := false, latch := false } })
    = some base := by decide

theorem test_time_read : after (exec (.timeRead .a (zs 0)) { base with tick := 0x010203040506 })
    = some (({ base with tick := 0x010203040506 } : State).replied .a (zs 0)
      (reply .ok .timeRead [0, 0, 1, 2, 3, 4, 5, 6])) := by decide

theorem test_card_set_denied_on_port_a :
    after (exec (.cardSet .a (zs 11)) base) = some (base.replied .a (zs 11) (reply .denied .cardSet [])) := by decide

theorem test_fetch_from_empty : after (exec (.fetch .a 4) base)
    = some (base.setPort .a { base.portA with sent := [0, 1, 0, 0, 0] }) := by decide

theorem test_temperature_examples :
    temperature 2432 = 280 ∧ temperature 64 = 1395 ∧ temperature 4032 = -335 := by decide

theorem test_nearest_examples : nearest 1638360 1024 = 1600 ∧ nearest (-10242) 4096 = -3 ∧ nearest 2048 4096 = 1 := by
  decide

theorem test_worked_integration : integrate 10 328 8388608 1600 = 8905216 := by decide

theorem test_worked_interpolation : interpolate 2001200 2000984 2001312 3000000 3065600 = 3043200
    ∧ shift 3043200 256 (2 ^ 24) = -46 ∧ shift (-1021600) 256 (2 ^ 24) = 16 := by decide

theorem test_worked_budget : ({ base.charge with
      settings := { base.charge.settings with iLim := 1500 }, cls := 3 } : Charge).withBudget
        { meas 5000 3800 with tick := 512 }
    = { base.charge with settings := { base.charge.settings with iLim := 1500 }, cls := 3, avail := 240, budget := 276 } := by
  decide

/-! ### Every statement's hypotheses are met by some state and operands -/

/-- The part without VSYS. -/
def dark : State := { base with store := { base.store with vsys := false } }

theorem witness_QueueIsServedInOrder : base.pending = [] := by decide

theorem witness_NothingHappensWithoutVsys : dark.store.vsys = false ∧ Instr.fstCapture ≠ .retentionLoss
    ∧ ∀ v l, Instr.fstCapture ≠ .por v l :=
  ⟨by decide, by decide, fun _ _ h => by cases h⟩

theorem witness_RequestChecksInOrder :
    (Instr.asRequest (.timeRead .b (zs 0)) = some (.timeRead, .b, zs 0)
      ∧ (slotted .b (.working 0x11 1)).store.vsys = true
      ∧ ((slotted .b (.working 0x11 1)).port .b).met (zs 0).began = .working)
    ∧ (Instr.asRequest (.timeRead .b (zs 1)) = some (.timeRead, .b, zs 1) ∧ base.store.vsys = true
      ∧ (base.port .b).met (zs 1).began ≠ .working ∧ (zs 1).body.length ≠ Kind.timeRead.bodyLen)
    ∧ (Instr.asRequest (.cardSet .a (zs 11)) = some (.cardSet, .a, zs 11) ∧ (base.port .a).met (zs 11).began ≠ .working
      ∧ (zs 11).len = some 11 ∧ (11 : Byte).toNat = Kind.cardSet.bodyLen
      ∧ (zs 11).body.length = Kind.cardSet.bodyLen ∧ Kind.cardSet.policyClass = some .catalogue
      ∧ (base.policy.row .a).allows .catalogue = false)
    ∧ (Instr.asRequest (.softReset .a (zs 0)) = some (.softReset, .a, zs 0) ∧ (zs 0).len = some 0
      ∧ (0 : Byte).toNat = Kind.softReset.bodyLen ∧ (zs 0).body.length = Kind.softReset.bodyLen) := by decide

theorem witness_every_kind_admitted_on_port_b :
    ∀ k ∈ Kind.all, base.Admits .b k (zs k.bodyLen) := by decide

/-- A port whose slot, and whose earlier states of it, are as given. -/
def left (x : Slot) (e : Earlier) : PortState := { base.portA with slot := x, earlier := e }

/-- A frame without a body whose transfer met its slot as `b` says. -/
def begun (b : Began) : Frame := { zs 0 with began := b }

theorem witness_UnknownAndBusyTransfers :
    (base.store.vsys = true ∧ isRequestByte .b 0 = true ∧ Kind.known 0 = false
      ∧ (base.port .b).met (zs 0).began ≠ .working)
    ∧ (isRequestByte .a 1 = true ∧ ((slotted .a (.working 0x11 1)).port .a).met (zs 0).began = .working)
    ∧ (left (.working 0x11 1) Earlier.none).slot.state = .working
    ∧ ((left .empty { working := true, answered := false }).earlier.working = true
      ∧ base.portA.earlier.working = false)
    ∧ ((left .empty { working := false, answered := true }).earlier.answered = true
      ∧ base.portA.earlier.answered = false ∧ base.portA.slot.state ≠ .working) := by decide

/-- R189: SOFT_RESET empties Port A's ANSWERED slot during a transfer of Port A that began before it; the transfer
sends 0x02, and is taken. -/
theorem test_transfer_begun_while_answered :
    ((after (exec (.softReset .b (zs 0)) (slotted .a (.answered (reply .ok .timeRead []))))).bind
      fun s => (after (exec (.timeRead .a (begun .whileAnswered)) s)).map fun t => (s.portA.slot, t.portA.sent, t.portA.busy))
    = some (.empty, [2, 0], false) := by decide

/-- R189: a request completes during a transfer that began while it was WORKING; the transfer is refused BUSY, sends
0x01 and leaves the answer. -/
theorem test_transfer_begun_while_working :
    ((after (exec (.syncCapture .a) { slotted .a (.working 0x11 1) with pairA := { armed := some 1, timeout := some 9 } })).bind
      fun s => (after (exec (.busyRefusal .a 0x10 (begun .whileWorking)) s)).map
        fun t => (s.portA.slot.state, t.portA.slot.state, t.portA.sent, t.portA.busy))
    = some (.answered, .answered, [1, 0], true) := by decide

theorem witness_FetchHandsOver : (base.port .a).slot = .empty
    ∧ ((slotted .a (.working 0x11 1)).port .a).slot = .working 0x11 1
    ∧ ((slotted .b (.answered (reply .ok .timeRead [])) ).port .b).slot = .answered (reply .ok .timeRead []) := by
  decide

theorem witness_NoticesAndAttn : base.Admits .a .noticeRead (zs 0)
    ∧ (base.Admits .a .noticeMask (fr ([2] ++ List.replicate 15 1)) ∧ (∃ x ∈ (fr ([2] ++ List.replicate 15 1)).body, 1 < x.toNat))
    ∧ (base.Admits .b .noticeMask (fr ([0] ++ List.replicate 15 1))
      ∧ ∀ x ∈ (fr ([0] ++ List.replicate 15 1)).body, x.toNat ≤ 1) := by decide

theorem witness_PolicyRequests : base.Admits .b .policySet (zs 16) ∧ base.Admits .b .policyLock (zs 0)
    ∧ base.Admits .a .identify (zs 0) ∧ base.policy = PolicyTable.default
    ∧ ({ base with locked := true } : State).locked = true
    ∧ after (exec .fstCapture { base with locked := true }) ≠ none := by decide

/-- A part whose Port A waits for its SYNC edge, its timeout due now. -/
def pairingA : State :=
  { slotted .a (.working 0x11 4) with pairA := { armed := some 4, timeout := some 0 } }

theorem witness_TimeAndPairing : base.Admits .a .timeRead (zs 0) ∧ base.Admits .b .timePair (zs 0)
    ∧ (base.pair .a).timeout ≠ some base.tick
    ∧ (base.store.vsys = true ∧ (base.pair .a).armed = none)
    ∧ (pairingA.store.vsys = true ∧ (pairingA.pair .a).armed = some 4
      ∧ (pairingA.port .a).slot = .working 0x11 4 ∧ (pairingA.pair .a).timeout = some pairingA.tick) := by decide

theorem witness_TimeMovesOnlyByTickAndPor : base.store.vsys = true ∧ after (exec .tickCounterAdvance base) ≠ none
    ∧ after (exec (.por 0 .low) base) ≠ none ∧ (∀ v l, Instr.fstCapture ≠ .por v l)
    ∧ Instr.fstCapture ≠ .tickCounterAdvance :=
  ⟨by decide, by decide, by decide, fun _ _ h => by (cases h), by decide⟩

/-- A part whose WHEEL input went from LOW to HIGH at tick 0. -/
def rising : State :=
  { base with tick := 2048
              qualifier := { raw := .high, qualified := .low, change := some { level := .high, start := 0 } } }

theorem witness_WheelPulses :
    (rising.store.vsys = true ∧ rising.qualifier.raw ≠ .low ∧ Level.low = rising.qualifier.qualified)
    ∧ (base.qualifier.raw ≠ .high ∧ Level.high ≠ base.qualifier.qualified ∧ base.wheel.q ≠ 0)
    ∧ (({ base with wheel := { base.wheel with q := 0 } } : State).wheel.q = 0 ∧ base.qualifier.change = none)
    ∧ (rising.qualifier.change = some { level := .high, start := 0 }
      ∧ rising.tick = later 0 (rising.wheel.q * 64))
    ∧ (∀ c ∈ ({ rising with tick := 2047 } : State).qualifier.change,
      ({ rising with tick := 2047 } : State).tick ≠ later c.start (rising.wheel.q * 64))
    ∧ base.wheel.prev = none
    ∧ (2097152 < Machine.dist 2097153 0 ∧ Machine.dist 2097152 0 ≤ 2097152)
    ∧ (base.wheel.w3 < base.wheel.w2 ∧ base.wheel.w2 < base.wheel.w1)
    ∧ ((WheelMeter.pulse { base.wheel with prev := some 0 } 1048576).period = some base.wheel.w1
      ∧ (WheelMeter.pulse { base.wheel with prev := some 0 } 419430).period = some base.wheel.w2
      ∧ (WheelMeter.pulse { base.wheel with prev := some 0 } 209715).period = some base.wheel.w3
      ∧ (WheelMeter.pulse { base.wheel with prev := some 0 } 209714).period = some 209714
      ∧ (WheelMeter.pulse base.wheel 5).period = none) := by decide

/-- WHEEL_SET with Q = 1 and thresholds 3, 2, 1. -/
def wheelFrame : Frame := fr [1, 0, 0, 0, 3, 0, 0, 0, 2, 0, 0, 0, 1]

theorem witness_WheelMeterCommands :
    (({ base with wheel := { base.wheel with stop := some 0 } } : State).wheel.stop = some base.tick)
    ∧ base.Admits .a .wheelRead (zs 0)
    ∧ (base.Admits .a .wheelSet (zs 13) ∧ ¬ (clamp 1 2097152 (field (zs 13).body 5 4) < clamp 1 2097152 (field (zs 13).body 1 4)))
    ∧ (base.Admits .a .wheelSet wheelFrame ∧ clamp 1 2097152 (field wheelFrame.body 1 4) = 3
      ∧ clamp 1 2097152 (field wheelFrame.body 5 4) = 2 ∧ clamp 1 2097152 (field wheelFrame.body 9 4) = 1
      ∧ ∀ c ∈ base.qualifier.change, Machine.dist base.tick c.start ≤ field wheelFrame.body 0 1 * 64)
    ∧ (rising.Admits .a .wheelSet wheelFrame
      ∧ ∀ c ∈ rising.qualifier.change, field wheelFrame.body 0 1 * 64 < Machine.dist rising.tick c.start) := by decide

/-- A running generator of period 256 and width 10, at a tick of its period. -/
def pulsing (now : Tick) : State :=
  { base with tick := now, iset := { Generator.begin 0 256 10 with staged := none } }

theorem witness_GeneratorEdges :
    ((pulsing 256).store.vsys = true ∧ ((pulsing 256).gen .iset).running = true
      ∧ (pulsing 256).tick = later ((pulsing 256).gen .iset).start ((pulsing 256).gen .iset).period
      ∧ ((pulsing 256).gen .iset).staged = none)
    ∧ (0 < ((pulsing 10).gen .iset).width ∧ ((pulsing 10).gen .iset).width < ((pulsing 10).gen .iset).period
      ∧ (pulsing 10).tick = later ((pulsing 10).gen .iset).start ((pulsing 10).gen .iset).width)
    ∧ ({ base with iset := { Generator.begin 0 256 10 with staged := some ⟨256, 0⟩ } } : State).iset.staged
      = some ⟨256, 0⟩ := by decide

theorem witness_LinkSettingRequests : base.Admits .a .imuLinkSet (zs 8)
    ∧ (base.Admits .a .imuBankWrite (fr [32, 0, 0, 0, 0, 0]) ∧ 31 < field (fr [32, 0, 0, 0, 0, 0]).body 0 1)
    ∧ (base.Admits .a .imuBankWrite (fr [0, 0, 128, 0, 0, 0]) ∧ 127 < field (fr [0, 0, 128, 0, 0, 0]).body 2 1)
    ∧ (base.Admits .a .imuBankWrite (fr [31, 1, 127, 5, 0, 1])
      ∧ field (fr [31, 1, 127, 5, 0, 1]).body 0 1 = (31 : Fin 32).val
      ∧ field (fr [31, 1, 127, 5, 0, 1]).body 2 1 ≤ 127) := by decide

theorem witness_BankReadReturnsTheEntry : base.store.vsys = true ∧ (base.port .a).met .whileAnswered ≠ .working
    ∧ (1 : Byte).toNat = 1 ∧ 31 < (32 : Byte).toNat ∧ (31 : Byte).toNat = (31 : Fin 32).val := by decide

theorem witness_LinkStartAndStop : base.Admits .a .imuStatus (zs 0) ∧ base.Admits .a .imuStart (zs 0)
    ∧ base.Admits .a .imuStop (zs 0) ∧ base.link.state = .off ∧ (linkIn .running .free).link.state ≠ .off := by decide

/-- An IMU_ACCESS of Port B. -/
def access : Access := { ticket := { port := .b, taking := 2 }, write := false, addr := 9, data := 0 }

/-- A running link whose bus carries Port B's IMU_ACCESS. -/
def passing : State :=
  { slotted .b (.working 0x25 2) with
    link := { base.link with state := .running, bus := .passThrough access, queue := [access], stall := some 0 } }

/-- An IMU_ACCESS of Port A. -/
def otherAccess : Access := { access with ticket := { port := .a, taking := 1 } }

/-- A running link with an IMU_ACCESS of each port in its queue. -/
def both : State := { passing with link := { passing.link with queue := [otherAccess, access] } }

theorem witness_LinkConfiguresFailsRecovers :
    (({ base with link := { base.link with state := .powering, startup := some 0 } } : State).link.startup
      = some base.tick)
    ∧ (linkIn .configuring .identityRead).link.bus = .identityRead
    ∧ (linkIn .configuring (.bankWrite 31)).link.bus = .bankWrite 31
    ∧ (linkIn .configuring (.verifyRead 0)).link.bus = .verifyRead 0
    ∧ (∃ b : Vector BankEntry 32, b = base.link.bank.set 31 { BankEntry.invalid with valid := true }
      ∧ b[(31 : Fin 32)].valid = true ∧ ∀ j : Fin 32, j < 31 → b[j].valid = false)
    ∧ (∀ j : Fin 32, base.link.bank[j].valid = false)
    ∧ (passing.store.vsys = true ∧ passing.link.stall = some passing.tick)
    ∧ (base.link.attempts < 3 ∧ 3 ≤ ({ base.link with attempts := 3 } : Link).attempts)
    ∧ (passing.link.queue = [] ++ access :: [] ∧ (∀ y ∈ ([] : List Access), y.ticket ≠ access.ticket)
      ∧ (passing.port access.ticket.port).slot = .working 0x25 access.ticket.taking)
    ∧ (both.link.queue = [otherAccess] ++ access :: [] ∧ (∀ y ∈ [otherAccess], y.ticket ≠ access.ticket)
      ∧ (both.port access.ticket.port).slot = .working 0x25 access.ticket.taking)
    ∧ ((linkIn .running .free).link.state = .running ∧ base.link.state ≠ .running
      ∧ ∀ a ∈ passing.link.queue, a.ticket.port = .a → ∀ k, (passing.port .a).slot ≠ .working k a.ticket.taking)
    ∧ ({ base.link with recovery := some 0 } : Link).recovery = some base.tick :=
  ⟨by decide, by decide, by decide, by decide, ⟨_, rfl, by decide, by decide⟩, by decide, by decide, by decide,
    by decide, by decide, ⟨by decide, by decide, by simp [passing, access]⟩, by decide⟩

/-- What two bytes spell, the first the high one. -/
def signed (hi lo : Byte) : Int :=
  if hi.toNat < 128 then (hi.toNat * 256 + lo.toNat : Int) else (hi.toNat * 256 + lo.toNat : Int) - 65536

theorem witness_SamplingAndBus_bytes : (∀ hi lo : Byte, signed hi lo = if hi.toNat < 128
      then (hi.toNat * 256 + lo.toNat : Int) else (hi.toNat * 256 + lo.toNat : Int) - 65536)
    ∧ signed 0x80 0 = -32768 ∧ signed 0x7F 0xFF = 32767 := ⟨fun _ _ => rfl, by decide, by decide⟩

theorem witness_SamplingAndBus :
    (base.store.vsys = true ∧ base.link.state ≠ .running)
    ∧ ((linkIn .running .free).link.state = .running ∧ (linkIn .running .free).link.bus = .free)
    ∧ passing.link.bus ≠ .free
    ∧ (linkIn .running (.sampleBurst 3 true)).link.bus = .sampleBurst 3 true
    ∧ (passing.link.bus = .passThrough access
      ∧ (passing.port access.ticket.port).slot = .working 0x25 access.ticket.taking)
    ∧ (∀ k, (({ passing with portB := base.portB } : State).port access.ticket.port).slot ≠ .working k access.ticket.taking)
    ∧ (passing.capture .drdy 4).channels.drdy = some 4
    ∧ (passing.channels.drdy = none ∧ passing.link.queue = access :: [])
    ∧ (base.channels.drdy = none ∧ base.link.queue = []) :=
  ⟨by decide, by decide, by decide, by decide, by decide, (by intro k h; cases h), by decide, by decide, by decide⟩

theorem witness_ImuAccessIsCheckedAndQueued : (linkIn .running .free).Admits .b .imuAccess (fr [1, 127, 0])
    ∧ base.Admits .b .imuAccess (fr [2, 0, 0]) := by decide

theorem witness_SampleIntegrates : ∃ (u w c : Axes Int) (dt : Nat) (restart : Bool) (sat : Nat → Int → Int),
    (sat = fun (n : Nat) (v : Int) => max (-(n : Int)) (min (n : Int) v))
    ∧ (restart = match base.motion.prev with
      | none => true
      | some p => still.first || decide (8 * base.link.settings.pImu < Machine.dist still.tick p))
    ∧ (dt = if restart then 0 else (base.motion.prev.map (Machine.dist still.tick)).getD 0)
    ∧ u = { yaw := sat 32767 (nearest (base.motion.settings.map.yaw.apply still.gyro * base.motion.settings.gain) 1024)
            pitch := sat 32767 (nearest (base.motion.settings.map.pitch.apply still.gyro * base.motion.settings.gain) 1024)
            roll := sat 32767 (nearest (base.motion.settings.map.roll.apply still.gyro * base.motion.settings.gain) 1024) }
    ∧ w = { yaw := sat 32767 (u.yaw - base.motion.bias.yaw), pitch := sat 32767 (u.pitch - base.motion.bias.pitch)
            roll := sat 32767 (u.roll - base.motion.bias.roll) }
    ∧ (∀ L : Nat, L = base.motion.settings.leak[base.wheel.band] → c =
      { yaw := sat (2 ^ 39 - 1) (base.motion.acc.yaw - Int.tdiv base.motion.acc.yaw (2 ^ L) + w.yaw * dt)
        pitch := sat (2 ^ 39 - 1) (base.motion.acc.pitch - Int.tdiv base.motion.acc.pitch (2 ^ L) + w.pitch * dt)
        roll := sat (2 ^ 39 - 1) (base.motion.acc.roll - Int.tdiv base.motion.acc.roll (2 ^ L) + w.roll * dt) }) :=
  ⟨_, _, _, _, _, _, rfl, rfl, rfl, rfl, rfl, fun _ h => by subst h; rfl⟩

theorem witness_SampleIntegrates_stages :
    (∃ m ended, (m, ended) = base.motion.absorb still base.link.settings.pImu base.wheel.band)
    ∧ base.motion.prev = none
    ∧ (∃ m : Motion, m = { base.motion with prev := some 50 } ∧ m.prev = some 50 ∧ still.first = false
      ∧ Machine.dist still.tick 50 ≤ 8 * 328 ∧ 8 * 6 < Machine.dist still.tick 50) :=
  ⟨⟨_, _, rfl⟩, by decide, ⟨_, rfl, by decide⟩⟩

theorem witness_SampleIntegrates_map :
    ((⟨.z, false⟩ : AxisMap).minus = false ∧ (⟨.x, true⟩ : AxisMap).minus = true
      ∧ (⟨-32768, 0, 0⟩ : Raw3).get .x = -32768 ∧ -32767 ≤ (⟨-32767, 0, 0⟩ : Raw3).get .x)
    ∧ 2 * (1 - nearest 1 2 * 2 : Int).natAbs = 2 := by decide

/-- The integrator with this still count. -/
def stillFor (n : Nat) : Motion := { base.motion with prev := some 50, stillCount := n }

theorem witness_StillWindowLearnsTheBias :
    (∃ x : Sample, x = { still with gyro := ⟨0, 0, 49⟩ }
      ∧ base.motion.settings.still < (base.motion.settings.map.map
        (fun a => scaled base.motion.settings.gain (a.apply x.gyro))).yaw.natAbs)
    ∧ ((base.motion.settings.map.map (fun a => scaled base.motion.settings.gain (a.apply still.gyro))) = Axes.all 0
      ∧ ((stillFor 4095).interval 328 still).2 = false ∧ (stillFor 4095).stillCount + 1 = 4096
      ∧ (stillFor 4094).stillCount + 1 ≠ 4096) :=
  ⟨⟨_, rfl, by decide⟩, by decide⟩

/-- An ACTIVE episode with this quiet count. -/
def episode (quiet : Nat) : Episode := { start := 10, peak := 20000, band := 0, quiet := quiet }

/-- A watch with this run count. -/
def watch (run : Nat) (committed : Bool) : Watch :=
  { start := 10, peak := 31000, run := run, committed := committed, timer := some 0 }

theorem witness_ShockEpisodesAndCrashWatch :
    base.motion.watch = none
    ∧ (base.motion.episode = none ∧ magnitude (base.motion.settings.map.map fun a => a.apply still.accel)
      < base.motion.settings.shock)
    ∧ base.motion.settings.shock ≤ magnitude (base.motion.settings.map.map fun a => a.apply ⟨16384, 0, 0⟩)
    ∧ ((episode 62).quiet + 1 ≠ 64 ∧ (episode 63).quiet + 1 = 64
      ∧ ({ base.motion with episode := some (episode 63) } : Motion).episode = some (episode 63))
    ∧ ((watch 1 true).committed = true ∧ (watch 0 false).committed = false
      ∧ isStill 48 (Axes.all 49) = false ∧ isStill 48 (Axes.all 48) = true)
    ∧ (∀ v ∈ (⟨-32768, 0, 32767⟩ : Axes Int).toList, -32768 ≤ v ∧ v ≤ 32767)
    ∧ (base.store.vsys = true ∧ (moved fun m => { m with watch := some (watch 3 false) }).motion.watch
      = some (watch 3 false) ∧ (watch 3 false).timer = some base.tick) := by decide

/-- MOTION_SET with the default map: gain 1, leaks 4, S 0, Ts 1, Tc 1. -/
def motionFrame : Frame := fr [0, 1, 2, 0, 1, 4, 4, 4, 4, 0, 0, 0, 1, 0, 1]

theorem witness_MotionRequests : base.Admits .a .biasSet (zs 6) ∧ base.Admits .a .motionRead (zs 0)
    ∧ base.Admits .a .lensSet (zs 10)
    ∧ (base.Admits .a .motionSet motionFrame
      ∧ (∃ x : MotionSettings, x = readMotion base.motion.settings.map motionFrame.body
        ∧ x.map.yaw.code = byteAt motionFrame.body 2 ∧ x.map.pitch.code = byteAt motionFrame.body 3
        ∧ x.map.roll.code = byteAt motionFrame.body 4 ∧ x.gain = clamp 1 4095 (field motionFrame.body 0 2)
        ∧ x.still = min 255 (field motionFrame.body 9 2)
        ∧ x.shock = clamp 1 32767 (field motionFrame.body 11 2)
        ∧ x.crash = max x.shock (clamp 1 32767 (field motionFrame.body 13 2))
        ∧ x.leak = #v[clamp 4 16 (field motionFrame.body 5 1), clamp 4 16 (field motionFrame.body 6 1),
          clamp 4 16 (field motionFrame.body 7 1), clamp 4 16 (field motionFrame.body 8 1)]
        ∧ x.map.yaw.src ≠ x.map.pitch.src ∧ x.map.yaw.src ≠ x.map.roll.src ∧ x.map.pitch.src ≠ x.map.roll.src)) :=
  ⟨by decide, by decide, by decide, by decide, ⟨_, rfl, by decide⟩⟩

theorem witness_MotionRequests_no_map : base.Admits .a .motionSet (zs 15)
    ∧ ¬ (∃ a q r : AxisMap, a.code = byteAt (zs 15).body 2 ∧ q.code = byteAt (zs 15).body 3
      ∧ r.code = byteAt (zs 15).body 4 ∧ a.src ≠ q.src ∧ a.src ≠ r.src ∧ q.src ≠ r.src) := by
  refine ⟨by decide, ?_⟩
  rintro ⟨⟨a, am⟩, ⟨q, qm⟩, r, h1, h2, -, h3, -⟩
  cases a <;> cases am <;> simp [AxisMap.code, zs, fr, byteAt] at h1
  cases q <;> cases qm <;> simp [AxisMap.code, zs, fr, byteAt] at h2
  exact h3 rfl

/-- R107, R122: a clip closed in the tick of a crash event whose episode began 20,000,000 ticks before is protected,
named and marked. -/
theorem test_crash_after_clip_close :
    ((after (exec (.clipClose .a (zs 4)) { recording with tick := 20000010 })).map fun s =>
      let (t, named) := s.crashProtect 10
      (named, (t.crashMark named 10 31000).catalogue.clips.map fun x => (x.number, x.protection, x.marks.length)))
    = some (some 3, [(2, .none, 0), (3, .crash, 1)]) := by decide

/-- R106: one tick later the same clip lies beyond the bound. -/
theorem test_crash_long_after_clip_close :
    ((after (exec (.clipClose .a (zs 4)) { recording with tick := 20000010 })).map fun s =>
      (({ s with tick := 20000011 } : State).crashProtect 10).2) = some none := by decide

theorem witness_ShockAndCrashEvents :
    (recording.catalogue.Ok ∧ clipIn 3 .opened ∈ recording.catalogue.clips ∧ recording.store.gate = .opened
      ∧ (clipIn 3 .opened).state = .opened)
    ∧ ((shut recording).store.gate = .closed ∧ (shut recording).catalogue.Ok)
    ∧ base.catalogue.clips = []
    ∧ ((holding [clipIn 2 .cut]).catalogue.Ok ∧ (∀ y ∈ (holding [clipIn 2 .cut]).catalogue.clips, y.state ≠ .opened
        ∧ y.number ≤ 2)
      ∧ (∃ e ∈ (clipIn 2 .cut).ending, e.epoch = base.store.epoch
        ∧ (Machine.dist e.tick 10485769 ≤ 10485760 ∨ Machine.dist 10485769 e.tick ≤ 10485760)
        ∧ ¬ (Machine.dist e.tick 10485770 ≤ 10485760 ∨ Machine.dist 10485770 e.tick ≤ 10485760)
        ∧ ¬ ((clipIn 2 .cut).state = .closed ∧ e.tick = base.tick)))
    ∧ (∃ e ∈ (clipIn 2 .closed).ending, (clipIn 2 .closed).state = .closed
      ∧ e.tick = ({ holding [clipIn 2 .closed] with tick := 9 } : State).tick)
    ∧ (recording.catalogue.openClip = some (clipIn 3 .opened) ∧ base.catalogue.openClip = none)
    ∧ (moved fun m => { m with watch := some (watch 2048 false) }).motion.watch = some (watch 2048 false)
    ∧ ((watch 2047 true).run < 2048 ∧ 2048 ≤ (watch 2048 false).run) := by
  refine ⟨⟨?_, by decide, by decide, by decide⟩, ⟨by decide, ?_⟩, by decide, ⟨?_, by decide, ⟨_, rfl, by decide⟩⟩,
    by decide, by decide, by decide⟩ <;> unfold Catalogue.Ok <;> decide

/-- FRAME_START with period 4096 and four bands. -/
def frameFrame : Frame := fr [0, 0, 16, 0, 0, 0, 0, 40, 4, 0, 0, 8, 0, 0, 0, 4, 0, 16]

theorem witness_FrameRequests :
    (base.Admits .a .frameStart (zs 18) ∧ field (zs 18).body 0 4 < 4096)
    ∧ (base.Admits .a .frameStart frameFrame ∧ 4096 ≤ field frameFrame.body 0 4
      ∧ field frameFrame.body 0 4 ≤ 1048576 ∧ field frameFrame.body 8 1 ∈ [1, 2, 4, 8, 16]
      ∧ base.frames.state = .idle ∧ base.frames.cur = none)
    ∧ ((framed fun f => { f with state := .armed }).Admits .a .frameStart frameFrame
      ∧ (framed fun f => { f with state := .armed }).frames.state ≠ .idle)
    ∧ base.Admits .a .frameStop (zs 0)
    ∧ (({ framed fun f => { f with state := .armed } with ftrig := Generator.begin 0 4096 1 } : State).ftrig.running
      = true)
    ∧ base.Admits .a .corrRead (zs 0) ∧ base.Admits .a .frameStatus (zs 0) := by decide

/-- A part with this current frame. -/
def during (c : CurFrame) : State := framed fun f => { f with state := .armed, cur := some c }

theorem witness_Strobes :
    ((during window).store.vsys = true ∧ (during window).frames.cur = some window
      ∧ window.window = some (during window).tick)
    ∧ ((during window).frames.state ≠ .idle ∧ window.window.isSome ∧ window.sn = none)
    ∧ base.frames.state = .idle
    ∧ ((during { window with sn := some 5 }).frames.cur = some { window with sn := some 5 }
      ∧ (during { window with sn := some 5 }).frames.state ≠ .idle ∧ window.fenTaken = false)
    ∧ (∃ c ∈ (during { window with window := none }).frames.cur, c.window = none ∨ c.sn.isSome)
    ∧ (∃ c ∈ (during window).frames.cur, c.sn = none ∨ c.fenTaken = true) := by
  refine ⟨by decide, by decide, by decide, by decide, ⟨{ window with window := none }, by decide, by decide⟩,
    ⟨window, by decide, by decide⟩⟩

/-- A pending band of frame 0 with its deadline. -/
def band (d : Timer) : Band := { frame := 0, index := 0, time := 100, deadline := d }

/-- A history entry at a tick. -/
def entry (t : Tick) : HistEntry :=
  { tick := t, acc := Axes.all 0, restart := false, pinned := Axes.all false }

/-- A part with these pending bands and this history. -/
def waiting (bs : List Band) (h : List HistEntry) : State :=
  { framed fun f => { f with bands := bs } with motion := { base.motion with history := h } }

theorem witness_BandsArePlacedAndExamined : base.frames.bands = []
    ∧ ((waiting [band none] []).frames.bands = band none :: [])
    ∧ coverage (waiting [band none] [entry 100]).motion.history (band none).time ≠ none
    ∧ (coverage (waiting [band none] [entry 99]).motion.history (band none).time = none ∧ (band none).deadline = none)
    ∧ (band (some 0)).deadline ≠ none
    ∧ ((waiting [band (some 0)] []).store.vsys = true
      ∧ ∃ b ∈ (waiting [band (some 0)] []).frames.bands, b.frame = 0 ∧ b.index = 0
        ∧ b.deadline = some (waiting [band (some 0)] []).tick) := by decide

theorem witness_RecordsFromTheHistory :
    ((entry 100).tick = 100 ∧ ∀ e ∈ [entry 99], e.tick ≠ 100)
    ∧ ((∀ e ∈ [entry 98] ++ [entry 99], atOrAfter e.tick 100 = false)
      ∧ (∀ e ∈ entry 101 :: [entry 102], atOrAfter e.tick 100 = true ∧ e.tick ≠ 100))
    ∧ (∀ e ∈ [entry 99], atOrAfter e.tick 100 = false)
    ∧ (base.frames.queue.length < 64)
    ∧ (base.store.gate = .opened ∧ recording.catalogue.openClip = some (clipIn 3 .opened))
    ∧ (shut base).store.gate = .closed := by decide

theorem witness_RecordsFromTheHistory_full (o h : CorrRec) : ∃ rest : List CorrRec, rest.length = 62
    ∧ (framed fun f => { f with queue := o :: h :: rest }).frames.queue = o :: h :: rest :=
  ⟨List.replicate 62 h, by simp, rfl⟩

theorem witness_CardReadReports : base.store.vsys = true ∧ (base.port .b).met .whileWorking ≠ .working
    ∧ (0 : Byte).toNat = 0 := by decide

theorem witness_CardRequests : base.Admits .b .cardSet (zs 11) ∧ base.Admits .b .formatCatalogue (zs 0) := by decide

/-- The OPEN clip, its committed and reserved units. -/
def openClip : Clip := clipIn 3 .opened

theorem witness_ClipRecording : base.Admits .a .clipOpen (zs 0)
    ∧ (base.Admits .a .clipProgress (fr [1, 0, 0, 1]) ∧ 16777216 < field (fr [1, 0, 0, 1]).body 0 4)
    ∧ (base.Admits .a .clipProgress (zs 4) ∧ field (zs 4).body 0 4 ≤ 16777216 ∧ base.catalogue.openClip = none)
    ∧ (recording.Admits .a .clipProgress (fr [0, 0, 0, 14]) ∧ recording.catalogue.openClip = some openClip
      ∧ field (fr [0, 0, 0, 14]).body 0 4 ≤ 16777216)
    ∧ base.Admits .a .clipClose (zs 4) ∧ recording.Admits .a .clipClose (zs 4) := by decide

/-- A recording part with this reservation pending. -/
def reserving (u : Nat) : State :=
  { recording with catalogue := { recording.catalogue with reservation := some u } }

theorem witness_SelectionAndReservations :
    (recording.Admits .a .clipReserve (zs 4) ∧ field (zs 4).body 0 4 = 0)
    ∧ (recording.Admits .a .clipReserve (fr [0, 1, 0, 0]) ∧ 65535 < field (fr [0, 1, 0, 0]).body 0 4)
    ∧ (base.Admits .a .clipReserve (fr [0, 0, 255, 255]) ∧ field (fr [0, 0, 255, 255]).body 0 4 = 65535
      ∧ base.catalogue.openClip = none)
    ∧ (recording.Admits .a .clipReserve (fr [0, 0, 0, 76]) ∧ recording.catalogue.openClip = some openClip
      ∧ recording.catalogue.reservation = none ∧ recording.store.gate = .opened
      ∧ field (fr [0, 0, 0, 76]).body 0 4 = recording.catalogue.free
      ∧ recording.catalogue.card.floor + field (fr [0, 0, 0, 76]).body 0 4 ≤ recording.catalogue.free)
    ∧ (recording.Admits .a .clipReserve (fr [0, 0, 0, 77])
      ∧ recording.catalogue.free < recording.catalogue.card.floor + field (fr [0, 0, 0, 77]).body 0 4)
    ∧ (shut recording).store.gate = .closed
    ∧ ((reserving 5).catalogue.reservation = some 5 ∧ (reserving 5).catalogue.openClip = some openClip)
    ∧ ((recording.catalogue.select (.units 80)).isSome ∧ recording.catalogue.select (.units 87) = none) := by decide

theorem witness_ClipUpkeep :
    (field (zs 4).body 0 4 = 0 ∧ field (fr [255, 255, 255, 255]).body 0 4 = 4294967295
      ∧ field (fr [0, 0, 0, 2]).body 0 4 = 2)
    ∧ (∀ k ∈ ([.clipDeleted, .clipProtect, .clipUnprotect, .clipForget] : List Kind),
      base.Admits .b k (zs 4) ∧ base.Admits .b k (fr [255, 255, 255, 255]) ∧ recording.Admits .b k (fr [0, 0, 0, 2]))
    ∧ base.catalogue.clip 2 = none ∧ recording.catalogue.clip 2 = some (clipIn 2 .closed)
    ∧ (holding [clipIn 2 .recycling]).catalogue.clip 2 = some (clipIn 2 .recycling)
    ∧ (holding [clipIn 2 .recycling]).Admits .b .clipDeleted (fr [0, 0, 0, 2]) := by decide

theorem witness_ClipReading : base.Admits .a .clipRead (zs 4)
    ∧ (base.Admits .a .clipList (fr [0, 0, 0, 0, 8]) ∧ 7 < field (fr [0, 0, 0, 0, 8]).body 4 1)
    ∧ (base.Admits .a .clipList (fr [0, 0, 0, 0, 7]) ∧ field (fr [0, 0, 0, 0, 7]).body 4 1 ≤ 7) := by decide

theorem witness_Marks : base.Admits .a .markUser (zs 0) ∧ recording.Admits .a .markUser (zs 0)
    ∧ base.catalogue.openClip = none ∧ recording.catalogue.openClip = some openClip
    ∧ base.Admits .a .markRead (zs 5)
    ∧ (openClip.marks.length < 16 ∧ recording.catalogue.poolSize < 256)
    ∧ 16 ≤ (List.replicate 16 (shock 5)).length
    ∧ (∀ y ∈ [({ shock 5 with kind := .user } : Mark)], y.kind ≠ .shock)
    ∧ (([shock 5, shock 5] : List Mark)[0].kind = .shock
      ∧ ([shock 5, shock 5] : List Mark)[0].peak.getD 0 = ([shock 5, shock 5] : List Mark)[1].peak.getD 0) := by decide

theorem witness_SupplyLossAndGate : base.store.vsys = true ∧ dark.store.vsys = false
    ∧ base.store.comparator = .high
    ∧ (∃ s : State, s = { base with store := { base.store with comparator := .low, gate := .closed } }
      ∧ s.store.vsys = true ∧ s.store.comparator = .low ∧ s.supply.state ≠ .shutdown)
    ∧ (∃ s : State, s = { supplied (fun x => { x with state := .shutdown }) with
        store := { base.store with comparator := .low } }
      ∧ s.store.vsys = true ∧ s.store.comparator = .low ∧ s.supply.state = .shutdown) :=
  ⟨by decide, by decide, by decide, ⟨_, rfl, by decide⟩, ⟨_, rfl, by decide⟩⟩

theorem witness_PowerOnReset : 3100 < 3101 ∧ base.store.latch = true
    ∧ ({ base.store with latch := false } : Store).latch = false ∧ base.catalogue.openClip = none
    ∧ recording.store.latch = true ∧ recording.catalogue.openClip = some openClip := by decide

theorem witness_SealAndRecovery : CutCause.forced ≠ .unsealed ∧ CutCause.hardCut ≠ .unsealed
    ∧ base.catalogue.openClip = none ∧ recording.catalogue.openClip = some openClip
    ∧ base.Admits .a .recoveryRead (zs 0) ∧ base.Admits .b .recoveryClear (zs 4) := by decide

/-- A ramping rail whose RAIL_ON is Port B's. -/
def ramping : State :=
  { slotted .b (.working 0x72 3) with
    supply := { base.supply with rail := .ramping { port := .b, taking := 3 }, ramp := some 0 } }

theorem witness_MediaRail : base.Admits .b .railOn (zs 0)
    ∧ (base.Admits .b .railOff (fr [2]) ∧ 1 < field (fr [2]).body 0 1)
    ∧ (recording.Admits .b .railOff (fr [0]) ∧ field (fr [0]).body 0 1 = 0
      ∧ recording.catalogue.openClip = some openClip)
    ∧ (base.Admits .b .railOff (fr [1]) ∧ field (fr [1]).body 0 1 = 1 ∧ base.catalogue.openClip = none)
    ∧ (recording.Admits .b .railOff (fr [1]))
    ∧ (ramping.store.vsys = true ∧ ramping.supply.rail = .ramping { port := .b, taking := 3 }
      ∧ (ramping.port .b).slot = .working 0x72 3 ∧ ramping.supply.ramp = some ramping.tick)
    ∧ base.supply.rail.isRamping = false ∧ base.supply.rail = .off
    ∧ (pairingA.portA.slot = .working 0x11 4 ∧ base.portA.slot.state ≠ .working)
    ∧ (supplied fun x => { x with rail := .on }).supply.rail = .on := by decide

theorem witness_SupplyRequests : base.Admits .b .supplySet (zs 10) ∧ base.Admits .a .supplyRead (zs 0) := by decide

theorem witness_SupplyStates :
    (supplied fun x => { x with present := some 0 }).supply.present = some base.tick
    ∧ ((supplied fun x => { x with ride := some ⟨0, 0⟩ }).supply.ride = some ⟨0, 0⟩
      ∧ (⟨0, 0⟩ : SpanTimer).due = base.tick)
    ∧ (supplied fun x => { x with debounce := some ⟨0, 0⟩ }).supply.debounce = some ⟨0, 0⟩
    ∧ (supplied fun x => { x with hold := some 0 }).supply.hold = some base.tick
    ∧ base.supply.state = .normal ∧ (supplied fun x => { x with state := .finishing }).supply.state ≠ .normal
    ∧ ramping.supply.rail.isRamping = true ∧ base.supply.rail.isRamping = false
    ∧ (base.supply.input = .absent ∧ base.charge.state = .off ∧ base.charge.enable = true)
    ∧ (supplied fun x => { x with input := .present }).supply.input = .present
    ∧ ((charged fun c => { c with enable := false }).charge.enable = false
      ∧ (charged fun c => { c with state := .qualify }).charge.state ≠ .off) := by decide

theorem witness_SupplyStates_judgement : base.supply.input = .absent
    ∧ ((meas 0 2999).vbat < base.supply.settings.vCut ∧ base.supply.settings.vCut ≤ (meas 0 3000).vbat
      ∧ (meas 0 3299).vbat < base.supply.settings.vWarn ∧ base.supply.settings.vWarn ≤ (meas 0 3300).vbat
      ∧ (meas 0 3449).vbat < base.supply.settings.vStart ∧ base.supply.settings.vStart ≤ (meas 0 3450).vbat)
    ∧ (atOrAfter 2048 (later 0 2048) = true ∧ atOrAfter 2047 (later 0 2048) = false)
    ∧ (supplied fun x => { x with input := .present }).supply.input = .present
    ∧ (supplied fun x => { x with state := .shutdown }).supply.state = .shutdown := by decide

theorem witness_MeasurementRounds :
    (∃ s : State, s = { base with tick := 512 } ∧ s.store.vsys = true ∧ s.tick.toNat % 1024 = 512
      ∧ ∀ old ∈ s.supply.table, old.tick ≠ s.tick)
    ∧ base.supply.decided = false
    ∧ (4400 ≤ (meas 4400 0).vin ∧ (meas 4399 0).vin < 4400 ∧ 4200 ≤ (meas 4200 0).vin ∧ (meas 4199 0).vin < 4200)
    ∧ ((supplied fun x => { x with decided := true }).supply.decided = true ∧ base.supply.input = .absent
      ∧ base.supply.present = none)
    ∧ ((supplied fun x => { x with decided := true, input := .present }).supply.input = .present
      ∧ atOrAfter 2048 (later 0 2048) = true ∧ atOrAfter 0 (later 0 2048) = false) :=
  ⟨⟨_, rfl, by decide⟩, by decide⟩

/-- A charging part in this state and zone with a VALID thermistor. -/
def charging (st : ChargeState) (z : Zone) : State :=
  charged fun c => { c with state := st, therm := some .valid, zone := z }

theorem witness_ChargeRequests : base.Admits .b .chargeSet (zs 13)
    ∧ (base.Admits .b .chargeEnable (fr [2]) ∧ 1 < field (fr [2]).body 0 1)
    ∧ (base.Admits .b .chargeEnable (fr [1]) ∧ field (fr [1]).body 0 1 = 1)
    ∧ (base.Admits .b .chargeEnable (fr [0]) ∧ field (fr [0]).body 0 1 = 0)
    ∧ base.Admits .a .powerTableSet (zs 16)
    ∧ (base.Admits .a .powerClass (fr [8]) ∧ 8 ≤ field (fr [8]).body 0 1)
    ∧ (base.Admits .a .powerClass (fr [7]) ∧ field (fr [7]).body 0 1 = (7 : Fin 8).val)
    ∧ base.Admits .b .faultClear (zs 0)
    ∧ (charged fun c => { c with state := .fault }).charge.state = .fault
    ∧ (charged fun c => { c with state := .qualify, qual := some 0 }).charge.qual = some base.tick
    ∧ (supplied fun x => { x with table := some (meas 5000 2999) }).supply.table ≠ none
    ∧ ((charged fun c => { c with target := 5 }).charge.target = 5 ∧ base.charge.target ≤ 0)
    ∧ (zoneCap 64 (charging .cc .warm).charge.zone = 32 ∧ base.iset.running = false
      ∧ (pulsing 0).iset.running = true) := by decide

theorem witness_ChargeStateChanges : base.charge.state = .off ∧ base.charge.state ≠ .qualify
    ∧ (pulsing 0).iset.running = true
    ∧ ChargeState.charging .done = false ∧ ChargeState.charging .cv = true
    ∧ (charged fun c => { c with state := .qualify }).charge.state = .qualify
    ∧ (charged fun c => { c with state := .paused }).charge.state = .paused := by decide

theorem witness_ChargeTransitions :
    (base.charge.state = .off ∧ (charged fun c => { c with therm := some .short }).charge.therm = some .short)
    ∧ ((charging .cc .normal).charge.therm = some .valid ∧ (charging .cc .normal).charge.state.charging = true)
    ∧ (base.charge.settings.vCv + 100 < (meas 0 4301).vbat ∧ (meas 0 4300).vbat ≤ base.charge.settings.vCv + 100)
    ∧ (1843200 ≤ ({ base.charge with safety := 1843200 } : Charge).safety
      ∧ base.charge.settings.safety * 3686400 ≤ ({ base.charge with safety := 14745600 } : Charge).safety
      ∧ base.charge.safety < base.charge.settings.safety * 3686400)
    ∧ ((charging .cc .cold).charge.zone = .cold ∧ (charging .paused .warm).charge.state = .paused)
    ∧ ((charging .done .hot).charge.state = .done ∧ 4200 ≤ (meas 0 4100).vbat + 100
      ∧ (meas 0 4099).vbat + 100 < 4200)
    ∧ (63 < 64 ∧ (charging .qualify .normal).charge.state = .qualify
      ∧ (charging .precharge .normal).charge.state = .precharge ∧ (charging .cv .normal).charge.state = .cv) := by
  decide

theorem witness_TemperatureAndZones : 63 < 64 ∧ 4032 < 4033 ∧ 64 ≤ 4032 ∧ 15 < 16 ∧ 255 < 256 := by decide

theorem witness_ChargeRound : (base.charge.state.charging = false)
    ∧ (({ charging .cc .normal with charge := { (charging .cc .normal).charge with
          settings := { base.charge.settings with iLim := 1500 } } } : State).chargeRound (meas 5000 3800)).charge.target = 1485
    ∧ (charging .cv .normal).charge.state = .cv ∧ (charging .precharge .normal).charge.state = .precharge := by decide

theorem witness_GaugeAndReports : base.Admits .b .gaugeSet (zs 4) ∧ base.Admits .a .gaugeRead (zs 0)
    ∧ base.Admits .a .chargeRead (zs 0) := by decide

theorem witness_SoftReset : (recording.Admits .b .softReset (zs 0) ∧ recording.catalogue.openClip = some openClip)
    ∧ (base.Admits .b .softReset (zs 0) ∧ base.catalogue.openClip = none ∧ pairingA.Admits .b .softReset (zs 0)
      ∧ pairingA.portA.slot = .working 0x11 4 ∧ pairingA.pairA.armed = some 4) := by decide

theorem witness_StepKeepsOwners_in_flight :
    ({ pairingA with portA := { pairingA.portA with takings := 4 } } : State).OwnersOk := by decide

/-- For the nine invariants: the part after reset has each, and a step of it answers. -/
theorem witness_StepKeeps : base.LinesOk ∧ base.Bounded ∧ base.catalogue.Ok ∧ (base.AnglesOk ∧ base.SettingsOk ∧ base.gauge.Ok)
    ∧ base.ChargeOk ∧ base.LinkOk ∧ base.FramesOk ∧ base.OwnersOk ∧ base.SupplyOk
    ∧ after (step { base with pending := [.timeRead .a (zs 0)] }) ≠ none := by
  refine ⟨?_, ?_, ?_, ⟨?_, ?_, ?_⟩, ?_, ?_, ?_, ?_, ?_, by decide⟩ <;> decide

end Sys2Proof.Tests
end

/-! # Proofs about the requests of the motion sensor link (chapter 2)

IMU_BANK_READ: which of its transfers pass the checks of R194, and what its own rule answers (R23). -/

namespace Sys2Proof.Machine

/-! ### Checks and fields -/

/-- A one-byte field at the start of a body is its first byte (R207). -/
@[simp] theorem field_cons_zero_one (b : Byte) (bs : List Byte) : field (b :: bs) 0 1 = b.toNat := by
  simp [field, beNat]

/-- R194, step 3: a kind in no policy class that is not fixed to Port B is allowed whatever the policy. -/
theorem State.allowed_of_unrestricted (s : State) (p : Port) {k : Kind} (hc : k.policyClass = none)
    (hb : k.portBOnly = false) : s.allowed p k = true := by
  simp [State.allowed, hc, hb]

theorem State.precheck_eq_none {s : State} {p : Port} {k : Kind} {f : Frame} (hl : Frame.lengthOk f k = true)
    (ha : s.allowed p k = true) : s.precheck p k f = none := by
  simp [State.precheck, hl, ha]

/-! ### IMU_BANK_READ -/

theorem imuBankRead_of_lt {index : Byte} (p : Port) (s : State) (i : Fin 32) (hi : index.toNat = i.val) :
    imuBankRead p [index] s = (s, .done .ok s.link.bank[i].enc) := by
  simp [imuBankRead, hi]

theorem imuBankRead_of_ge {index : Byte} (p : Port) (s : State) (hi : 31 < index.toNat) :
    imuBankRead p [index] s = (s, .done .badValue []) := by
  have hout : ¬ index.toNat < 32 := by omega
  simp [imuBankRead, hout]

/-- R194: an IMU_BANK_READ of one body byte passes every check, whatever the link state and the policy. -/
theorem State.admits_imuBankRead {s : State} {p : Port} {l index : Byte} {b : Began} (hv : s.store.vsys = true)
    (hw : (s.port p).met b ≠ .working) (hl : l.toNat = 1) :
    s.Admits p .imuBankRead { len := some l, body := [index], began := b } := by
  have hlen : Frame.lengthOk { len := some l, body := [index], began := b } .imuBankRead = true :=
    (Frame.lengthOk_iff _ _).mpr ⟨l, rfl, hl, rfl⟩
  exact ⟨hv, hw, State.precheck_eq_none hlen (s.allowed_of_unrestricted p rfl rfl)⟩

/-- An admitted IMU_BANK_READ whose own rule only answers changes nothing but the port it came on. -/
theorem exec_imuBankRead_replied {s : State} {p : Port} {f : Frame} {st : Status} {body : List Byte}
    (hadm : s.Admits p .imuBankRead f)
    (hact : ∀ t : State, t.link = s.link → imuBankRead p f.body t = (t, .done st body)) :
    exec (.imuBankRead p f) s = .next (s.replied p f (reply st .imuBankRead body)) := by
  calc exec (.imuBankRead p f) s
      = s.doRequest .imuBankRead imuBankRead p f := rfl
    _ = .next (State.settle p .imuBankRead (imuBankRead p f.body (s.take p (Kind.code .imuBankRead) f))) :=
        State.doRequest_admitted imuBankRead hadm
    _ = .next (s.replied p f (reply st .imuBankRead body)) := by
        rw [hact _ (State.take_link ..), State.settle_done, State.take_answer]

/-- Settles O15: the transfer is admitted, and the index decides which answer the kind's own rule gives. -/
theorem bankReadReturnsTheEntry : Obligations.BankReadReturnsTheEntry := by
  refine ⟨rfl, fun p l index b s hv hw hl => ?_⟩
  have hadm := State.admits_imuBankRead (index := index) hv hw hl
  constructor
  · intro hi
    exact exec_imuBankRead_replied hadm fun t _ => imuBankRead_of_ge p t hi
  · intro i hi
    refine exec_imuBankRead_replied hadm fun t ht => ?_
    rw [imuBankRead_of_lt p t i hi, ht, BankEntry.enc]

end Sys2Proof.Machine

/-! # Proofs about the requests of the clip catalogue (chapter 5)

CARD_READ: a transfer with an empty body passes the checks of R194, and its own rule reports the catalogue (R110). -/

namespace Sys2Proof.Machine

/-! ### Requests that only answer -/

/-- R194: a transfer of the kind's own length passes every check, whatever the policy, if the kind is in no policy
class and not fixed to Port B. -/
theorem State.admits_of_unrestricted {s : State} {p : Port} {k : Kind} {f : Frame} {l : Byte}
    (hc : k.policyClass = none) (hb : k.portBOnly = false) (hv : s.store.vsys = true)
    (hw : (s.port p).met f.began ≠ .working) (hf : f.len = some l) (hl : l.toNat = k.bodyLen)
    (hbody : f.body.length = k.bodyLen) : s.Admits p k f :=
  have hlen : Frame.lengthOk f k = true := (Frame.lengthOk_iff f k).mpr ⟨l, hf, hl, hbody⟩
  ⟨hv, hw, State.precheck_eq_none hlen (s.allowed_of_unrestricted p hc hb)⟩

/-- An admitted request whose own rule only answers changes nothing but the port it came on. -/
theorem State.doRequest_replied {s : State} {p : Port} {k : Kind} {f : Frame} {st : Status} {body : List Byte}
    {act : Port → List Byte → State → State × Reply} (hadm : s.Admits p k f)
    (hact : act p f.body (s.take p (Kind.code k) f) = (s.take p (Kind.code k) f, .done st body)) :
    s.doRequest k act p f = .next (s.replied p f (reply st k body)) := by
  rw [State.doRequest_admitted act hadm, hact, State.settle_done, State.take_answer]

/-! ### CARD_READ -/

/-- R207: an optional number of units in an answer. -/
@[simp] theorem encOpt_units_some (u : Nat) : encOpt 4 (beBytes 4) (some u) = 1 :: beBytes 4 u := rfl

@[simp] theorem encOpt_units_none : encOpt 4 (beBytes 4) none = [0, 0, 0, 0, 0] := rfl

/-- R89: the units in use are the committed and the reserved units of every record. -/
theorem Catalogue.inUse_eq_sum (c : Catalogue) :
    c.inUse = (c.clips.map fun x => x.committed + x.reserved).sum := rfl

/-- The body of CARD_READ's answer (R110). -/
def Catalogue.report (c : Catalogue) : List Byte :=
  c.card.enc ++ beBytes 4 c.inUse ++ beBytes 4 c.free ++ beBytes 1 c.clips.length
    ++ beBytes 1 c.recycling.length ++ encOpt 4 (beBytes 4) c.reservation ++ beBytes 4 c.nextClip

theorem cardRead_eq (p : Port) (b : List Byte) (s : State) :
    cardRead p b s = (s, .done .ok s.catalogue.report) := rfl

/-- R110: an admitted CARD_READ reports the catalogue as it stands; the gate has no part in it. -/
theorem exec_cardRead_admitted {s : State} {p : Port} {f : Frame} (hadm : s.Admits p .cardRead f) :
    exec (.cardRead p f) s = .next (s.replied p f (reply .ok .cardRead s.catalogue.report)) := by
  have hact := cardRead_eq p f.body (s.take p (Kind.code .cardRead) f)
  rw [State.take_catalogue] at hact
  exact State.doRequest_replied hadm hact

/-- Settles O28: the transfer is admitted, and the report is spelled out with the reservation pending or absent. -/
theorem cardReadReports : Obligations.CardReadReports := by
  refine ⟨rfl, fun p l b s used hv hw hl hused => ?_⟩
  have hadm : s.Admits p .cardRead { len := some l, body := [], began := b } :=
    State.admits_of_unrestricted rfl rfl hv hw rfl hl rfl
  have hinUse : s.catalogue.inUse = used := by rw [hused, Catalogue.inUse_eq_sum]
  rw [exec_cardRead_admitted hadm, Catalogue.report, Card.enc, Catalogue.free, Catalogue.recycling, hinUse]
  cases s.catalogue.reservation with
  | none => rw [encOpt_units_none]
  | some u => rw [encOpt_units_some]

end Sys2Proof.Machine

/-! # What each operation and each command can touch

The invariants of Safety.lean read few pieces of the state each. `Piece` names those pieces, `State.Touches` says that
an operation leaves every piece outside a list as it was, and `Instr.touches` is the list of each command. An invariant
then concerns only the commands that touch one of its own pieces. -/

namespace Sys2Proof.Machine

/-- A piece of the state that an invariant or a statement about every command reads. -/
inductive Piece where
  | tick | epoch | gates | drdy | wheel | pairs | ftrig | iset
  | linkSettings | linkMode | bus | queue | gaps
  | motionSettings | bias | angles | samples
  | lens | tracker | bands | corrections
  | catalogue | supplySettings | mode | inputs | rail
  | chargeSettings | classTable | charger | gauge
  | slots | lines | policy | pending
  deriving DecidableEq

/-- What a port shows of its slot is the same: the slot, its record of earlier states, its count of takings. -/
@[simp] def PortState.SameSlot (x y : PortState) : Prop :=
  y.slot = x.slot ∧ y.earlier = x.earlier ∧ y.takings = x.takings

/-- A port's notice set, mask and ATTN are the same. -/
@[simp] def PortState.SameLines (x y : PortState) : Prop :=
  y.notices = x.notices ∧ y.mask = x.mask ∧ y.attn = x.attn

/-- The piece is the same in `t` as in `s`. -/
@[simp] def Piece.Same (s t : State) : Piece → Prop
  | .tick => t.tick = s.tick
  | .epoch => t.store.epoch = s.store.epoch
  | .gates => t.store.vsys = s.store.vsys ∧ t.store.latch = s.store.latch
      ∧ t.store.comparator = s.store.comparator ∧ t.store.gate = s.store.gate
  | .drdy => t.channels.drdy = s.channels.drdy
  | .wheel => t.wheel = s.wheel
  | .pairs => t.pairA = s.pairA ∧ t.pairB = s.pairB
  | .ftrig => t.ftrig = s.ftrig
  | .iset => t.iset = s.iset
  | .linkSettings => t.link.settings = s.link.settings
  | .linkMode => t.link.state = s.link.state ∧ t.link.startup = s.link.startup
      ∧ t.link.recovery = s.link.recovery ∧ t.link.stall = s.link.stall ∧ t.link.attempts = s.link.attempts
  | .bus => t.link.bus = s.link.bus
  | .queue => t.link.queue = s.link.queue
  | .gaps => t.link.gaps = s.link.gaps
  | .motionSettings => t.motion.settings = s.motion.settings
  | .bias => t.motion.bias = s.motion.bias
  | .angles => t.motion.acc = s.motion.acc ∧ t.motion.limit = s.motion.limit
  | .samples => t.motion.history = s.motion.history ∧ t.motion.stillCount = s.motion.stillCount
      ∧ t.motion.episode = s.motion.episode ∧ t.motion.watch = s.motion.watch
  | .lens => t.frames.lens = s.frames.lens
  | .tracker => t.frames.state = s.frames.state ∧ t.frames.params = s.frames.params
      ∧ t.frames.opened = s.frames.opened ∧ t.frames.cur = s.frames.cur
  | .bands => t.frames.bands = s.frames.bands
  | .corrections => t.frames.queue = s.frames.queue
  | .catalogue => t.catalogue = s.catalogue
  | .supplySettings => t.supply.settings = s.supply.settings
  | .mode => t.supply.state = s.supply.state ∧ t.supply.pwrfail = s.supply.pwrfail
  | .inputs => t.supply.input = s.supply.input ∧ t.supply.present = s.supply.present
      ∧ t.supply.ride = s.supply.ride ∧ t.supply.debounce = s.supply.debounce ∧ t.supply.hold = s.supply.hold
  | .rail => t.supply.rail = s.supply.rail ∧ t.supply.ramp = s.supply.ramp
  | .chargeSettings => t.charge.settings = s.charge.settings
  | .classTable => t.charge.table = s.charge.table
  | .charger => t.charge.zone = s.charge.zone ∧ t.charge.state = s.charge.state ∧ t.charge.resume = s.charge.resume
      ∧ t.charge.qual = s.charge.qual ∧ t.charge.safety = s.charge.safety ∧ t.charge.term = s.charge.term
      ∧ t.charge.trim = s.charge.trim ∧ t.charge.cv = s.charge.cv ∧ t.charge.ceiling = s.charge.ceiling
      ∧ t.charge.target = s.charge.target ∧ t.charge.isetWidth = s.charge.isetWidth
  | .gauge => t.gauge = s.gauge
  | .slots => s.portA.SameSlot t.portA ∧ s.portB.SameSlot t.portB
  | .lines => s.portA.SameLines t.portA ∧ s.portB.SameLines t.portB
  | .policy => t.policy = s.policy ∧ t.locked = s.locked
  | .pending => t.pending = s.pending

/-- R199, R200: the notice set and ATTN of both ports are right. -/
@[simp] def State.NoticesOk (s : State) : Prop := s.portA.LinesOk .a ∧ s.portB.LinesOk .b

/-- From `s` to `t` only pieces in `ps` have changed. The notice lines can change too, but every operation that
changes them keeps them right. -/
structure State.Touches (ps : List Piece) (s t : State) : Prop where
  same : ∀ p, p ∉ ps → Piece.Same s t p
  notices : s.NoticesOk → t.NoticesOk

theorem Piece.forall_iff (P : Piece → Prop) : (∀ p, P p) ↔
    P .tick ∧ P .epoch ∧ P .gates ∧ P .drdy ∧ P .wheel ∧ P .pairs ∧ P .ftrig ∧ P .iset
    ∧ P .linkSettings ∧ P .linkMode ∧ P .bus ∧ P .queue ∧ P .gaps
    ∧ P .motionSettings ∧ P .bias ∧ P .angles ∧ P .samples
    ∧ P .lens ∧ P .tracker ∧ P .bands ∧ P .corrections
    ∧ P .catalogue ∧ P .supplySettings ∧ P .mode ∧ P .inputs ∧ P .rail
    ∧ P .chargeSettings ∧ P .classTable ∧ P .charger ∧ P .gauge
    ∧ P .slots ∧ P .lines ∧ P .policy ∧ P .pending := by
  constructor
  · intro h
    exact ⟨h _, h _, h _, h _, h _, h _, h _, h _, h _, h _, h _, h _, h _, h _, h _, h _, h _, h _, h _, h _, h _,
      h _, h _, h _, h _, h _, h _, h _, h _, h _, h _, h _, h _, h _⟩
  · intro h p
    cases p <;> simp only [h]

/-- `Touches` piece by piece, for an operation that only writes fields. -/
theorem State.touches_iff (ps : List Piece) (s t : State) : State.Touches ps s t ↔
    (.tick ∉ ps → Piece.Same s t .tick) ∧ (.epoch ∉ ps → Piece.Same s t .epoch)
    ∧ (.gates ∉ ps → Piece.Same s t .gates) ∧ (.drdy ∉ ps → Piece.Same s t .drdy)
    ∧ (.wheel ∉ ps → Piece.Same s t .wheel) ∧ (.pairs ∉ ps → Piece.Same s t .pairs)
    ∧ (.ftrig ∉ ps → Piece.Same s t .ftrig) ∧ (.iset ∉ ps → Piece.Same s t .iset)
    ∧ (.linkSettings ∉ ps → Piece.Same s t .linkSettings) ∧ (.linkMode ∉ ps → Piece.Same s t .linkMode)
    ∧ (.bus ∉ ps → Piece.Same s t .bus) ∧ (.queue ∉ ps → Piece.Same s t .queue)
    ∧ (.gaps ∉ ps → Piece.Same s t .gaps) ∧ (.motionSettings ∉ ps → Piece.Same s t .motionSettings)
    ∧ (.bias ∉ ps → Piece.Same s t .bias) ∧ (.angles ∉ ps → Piece.Same s t .angles)
    ∧ (.samples ∉ ps → Piece.Same s t .samples) ∧ (.lens ∉ ps → Piece.Same s t .lens)
    ∧ (.tracker ∉ ps → Piece.Same s t .tracker) ∧ (.bands ∉ ps → Piece.Same s t .bands)
    ∧ (.corrections ∉ ps → Piece.Same s t .corrections) ∧ (.catalogue ∉ ps → Piece.Same s t .catalogue)
    ∧ (.supplySettings ∉ ps → Piece.Same s t .supplySettings) ∧ (.mode ∉ ps → Piece.Same s t .mode)
    ∧ (.inputs ∉ ps → Piece.Same s t .inputs) ∧ (.rail ∉ ps → Piece.Same s t .rail)
    ∧ (.chargeSettings ∉ ps → Piece.Same s t .chargeSettings) ∧ (.classTable ∉ ps → Piece.Same s t .classTable)
    ∧ (.charger ∉ ps → Piece.Same s t .charger) ∧ (.gauge ∉ ps → Piece.Same s t .gauge)
    ∧ (.slots ∉ ps → Piece.Same s t .slots) ∧ (.lines ∉ ps → Piece.Same s t .lines)
    ∧ (.policy ∉ ps → Piece.Same s t .policy) ∧ (.pending ∉ ps → Piece.Same s t .pending)
    ∧ (s.NoticesOk → t.NoticesOk) := by
  constructor
  · intro h
    simpa only [and_assoc] using And.intro ((Piece.forall_iff _).mp h.same) h.notices
  · intro h
    simp only [← and_assoc] at h
    exact ⟨(Piece.forall_iff _).mpr (by simpa only [and_assoc] using h.1), h.2⟩

namespace State

/-! ### Composing what is touched -/

section
variable {ps qs : List Piece} {s t u : State}

theorem Touches.refl (ps : List Piece) (s : State) : Touches ps s s := by
  simp [touches_iff]

theorem Touches.trans (h : Touches ps s t) (g : Touches ps t u) : Touches ps s u := by
  refine ⟨fun p hp => ?_, g.notices ∘ h.notices⟩
  have hst := h.same p hp
  have htu := g.same p hp
  cases p <;> simp_all

theorem Touches.mono (h : Touches ps s t) (hsub : ∀ p ∈ ps, p ∈ qs) : Touches qs s t :=
  ⟨fun p hp => h.same p fun hin => hp (hsub p hin), h.notices⟩

theorem Touches.ite {c : Prop} [Decidable c] (ht : Touches ps s t) (hu : Touches ps s u) :
    Touches ps s (if c then t else u) := by
  split <;> assumption

/-- One operation after another, each with its own list. -/
theorem Touches.andThen {rs : List Piece} (h : Touches ps s t) (g : Touches qs t u) (hps : ∀ p ∈ ps, p ∈ rs)
    (hqs : ∀ p ∈ qs, p ∈ rs) : Touches rs s u :=
  (h.mono hps).trans (g.mono hqs)

end

/-! ### The shared operations -/

theorem setPair_touches (s : State) (p : Port) (x : Pairing) : Touches [.pairs] s (s.setPair p x) := by
  cases p <;> simp [touches_iff, setPair]

theorem take_touches (s : State) (p : Port) (c : Byte) (f : Frame) : Touches [.slots] s (s.take p c f) := by
  cases p <;> simp [touches_iff, take, setPort, port]

theorem refuseBusy_touches (s : State) (p : Port) (f : Frame) : Touches [.slots] s (s.refuseBusy p f) := by
  cases p <;> simp [touches_iff, refuseBusy, setPort, port]

theorem answer_touches (s : State) (p : Port) (a : Answer) : Touches [.slots] s (s.answer p a) := by
  cases p <;> simp [touches_iff, answer, setPort, port]

theorem finish_touches (s : State) (p : Port) (a : Answer) : Touches [.slots] s (s.finish p a) := by
  cases p <;> simp [touches_iff, finish, setPort, port, PortState.change]

/-- A kind routed to a port is one of the kinds its set can hold. -/
theorem notice_set_routed {n : Notice} {p : Port} (h : n.routed p = true) : n.set &&& ~~~(routedSet p) = 0 := by
  revert h
  cases n <;> cases p <;> decide

/-- A kind routed to the port joins its set: ATTN follows, and the set stays within the routed kinds. -/
theorem linesOk_raise {x : PortState} {p : Port} {n : Notice} (hn : n.routed p = true) (hx : x.LinesOk p) :
    (x.raise n).LinesOk p := by
  refine ⟨rfl, ?_⟩
  show (x.notices ||| n.set) &&& ~~~(routedSet p) = 0
  rw [BitVec.and_comm, BitVec.and_or_distrib_left, BitVec.and_comm, hx.2, BitVec.and_comm, notice_set_routed hn]
  rfl

theorem noticesOk_raise (s : State) (n : Notice) (h : s.NoticesOk) : (s.raise n).NoticesOk := by
  refine ⟨?_, ?_⟩ <;> unfold raise <;> dsimp only <;> split
  case refine_1.isTrue hn => exact linesOk_raise hn h.1
  case refine_2.isTrue hn => exact linesOk_raise hn h.2
  case refine_1.isFalse => exact h.1
  case refine_2.isFalse => exact h.2

theorem raise_touches (s : State) (n : Notice) : Touches [.lines] s (s.raise n) := by
  refine ⟨fun p hp => ?_, noticesOk_raise s n⟩
  cases n <;> cases p <;> simp_all [raise, PortState.raise, PortState.withNotices, Notice.routed]

theorem complete_touches (s : State) (t : Ticket) (st : Status) (b : List Byte) :
    Touches [.slots] s (s.complete t st b) := by
  obtain h | ⟨c, -, h⟩ := complete_cases s t st b <;> rw [h]
  · exact .refl _ _
  · exact finish_touches ..

theorem abandon_touches (s : State) (p : Port) : Touches [.slots, .pairs, .queue] s (s.abandon p) := by
  cases p <;> unfold abandon <;> dsimp only <;> split
  all_goals try split
  all_goals simp [touches_iff, setPair, setPort, port, PortState.change]

/-- A capture that the consumer takes at once leaves nothing behind, on any channel but DRDY. -/
theorem emptied_touches (s : State) (ch : Channel) (h : ch ≠ .drdy) : Touches [] s (s.emptied ch) := by
  cases ch <;> simp_all [touches_iff, emptied, Channels.put]

theorem emptied_drdy_touches (s : State) : Touches [.drdy] s (s.emptied .drdy) := by
  simp [touches_iff, emptied, Channels.put]

/-! ### Marks and frames -/

theorem withCatalogue_touches (s : State) (c : Catalogue) : Touches [.catalogue] s { s with catalogue := c } := by
  simp [touches_iff]

theorem shockMark_touches (s : State) (start : Tick) (peak : Nat) (band : Fin 4) :
    Touches [.catalogue] s (s.shockMark start peak band) := by
  unfold shockMark
  split
  · split
    · exact withCatalogue_touches ..
    · exact .refl _ _
  · exact .refl _ _

theorem crashMark_touches (s : State) (n : Option Nat) (start : Tick) (peak : Nat) :
    Touches [.catalogue] s (s.crashMark n start peak) := by
  unfold crashMark
  split
  · exact withCatalogue_touches ..
  · exact .refl _ _

theorem countBand_touches (s : State) (r : CorrRec) : Touches [.catalogue] s (s.countBand r) := by
  unfold countBand
  split
  · split
    · exact withCatalogue_touches ..
    · exact .refl _ _
  · exact .refl _ _

theorem deliver_touches (s : State) (r : CorrRec) :
    Touches [.corrections, .lines, .catalogue] s (s.deliver r) := by
  unfold deliver
  refine .andThen ?_ (countBand_touches _ r) (ps := [.corrections, .lines]) (by decide) (by decide)
  split
  · refine .andThen ?_ (raise_touches _ _) (ps := [.corrections]) (by decide) (by decide)
    simp [touches_iff]
  · simp [touches_iff]

theorem formBand_touches (s : State) (b : Band) (x : Found) :
    Touches [.bands, .corrections, .lines, .catalogue] s (s.formBand b x) := by
  refine .andThen (ps := [.bands]) ?_ (deliver_touches _ _) (by decide) (by decide)
  simp [touches_iff]

theorem examineN_touches (n : Nat) (s : State) :
    Touches [.bands, .corrections, .lines, .catalogue] s (s.examineN n) := by
  induction n generalizing s with
  | zero => exact .refl _ _
  | succ n ih =>
    unfold examineN
    split
    · exact .refl _ _
    · split
      · exact (formBand_touches ..).trans (ih _)
      · exact .refl _ _

theorem examine_touches (s : State) : Touches [.bands, .corrections, .lines, .catalogue] s s.examine :=
  examineN_touches _ s

theorem forceOldest_touches (s : State) :
    Touches [.bands, .corrections, .lines, .catalogue] s s.forceOldest := by
  unfold forceOldest
  split
  · exact .refl _ _
  · exact formBand_touches ..

theorem force_touches (k : Nat) (s : State) : Touches [.bands, .corrections, .lines, .catalogue] s (s.force k) := by
  induction k generalizing s with
  | zero => exact .refl _ _
  | succ k ih => exact (forceOldest_touches s).trans (ih _)

theorem placeBands_touches (s : State) (t : Tick) :
    Touches [.bands, .corrections, .lines, .catalogue] s (s.placeBands t) := by
  have hforce := force_touches (s.frames.bands.length + s.frames.params.bands - 64) s
  refine hforce.trans (.trans ?_ (examine_touches _))
  simp [touches_iff]

theorem closeWindow_touches (s : State) : Touches [.tracker, .lines] s s.closeWindow := by
  unfold closeWindow
  split
  · split
    · dsimp only
      split
      · refine .andThen (ps := [.tracker]) ?_ (raise_touches _ _) (by decide) (by decide)
        simp [touches_iff]
      · simp [touches_iff]
    · exact .refl _ _
  · exact .refl _ _

theorem frameTrigger_touches (s : State) : Touches [.tracker, .lines] s s.frameTrigger := by
  refine (closeWindow_touches s).trans ?_
  simp [touches_iff, frameTrigger]

theorem strobe_touches (s : State) :
    Touches [.tracker, .bands, .corrections, .lines, .catalogue] s s.strobe := by
  unfold strobe
  split
  · split
    · refine .andThen (ps := [.tracker]) ?_ (placeBands_touches _ _) (by decide) (by decide)
      simp [touches_iff]
    · exact .refl _ _
  · exact .refl _ _

theorem endStrobe_touches (s : State) : Touches [.tracker] s s.endStrobe := by
  unfold endStrobe
  split
  · split
    · split
      · simp [touches_iff]
      · exact .refl _ _
    · exact .refl _ _
  · exact .refl _ _

theorem frameStart_touches (s : State) (x : FrameParams) : Touches [.ftrig, .tracker, .lines] s (s.frameStart x) := by
  refine .andThen (ps := [.ftrig, .tracker]) ?_ (frameTrigger_touches _) (by decide) (by decide)
  simp [touches_iff]

theorem frameStop_touches (s : State) : Touches [.ftrig, .tracker, .bands] s s.frameStop := by
  unfold frameStop
  split
  · exact .refl _ _
  · simp [touches_iff]

theorem frameRailOff_touches (s : State) : Touches [.ftrig, .tracker, .bands, .corrections] s s.frameRailOff := by
  refine .andThen (qs := [.corrections]) (frameStop_touches s) ?_ (by decide) (by decide)
  simp [touches_iff, frameRailOff]

/-! ### Charging -/

theorem toCharge_touches (s : State) (new : ChargeState) : Touches [.charger, .iset, .lines] s (s.toCharge new) := by
  unfold toCharge
  split
  · exact .refl _ _
  · have h : Touches [.charger, .iset, .lines] s { s with
        charge := s.charge.enter s.tick new, iset := if new.charging then s.iset else s.iset.stop } := by
      simp [touches_iff, Charge.enter]
    have hraise (u : State) (n : Notice) : Touches [.charger, .iset, .lines] u (u.raise n) :=
      (raise_touches u n).mono (by decide)
    exact h.trans ((hraise _ .chargeState).trans (.ite (hraise _ .chargeFault) (.refl _ _)))

theorem pauseCharge_touches (s : State) (r : ChargeState) : Touches [.charger, .iset, .lines] s (s.pauseCharge r) := by
  refine .trans ?_ (toCharge_touches _ _)
  simp [touches_iff]

theorem resumeCharge_touches (s : State) : Touches [.charger, .iset, .lines] s s.resumeCharge := by
  unfold resumeCharge
  split
  · refine .trans ?_ (toCharge_touches _ _)
    simp [touches_iff]
  · exact .refl _ _

theorem faultCharge_touches (s : State) (m : MeasTable) (c : FaultCause) :
    Touches [.charger, .iset, .lines] s (s.faultCharge m c) := by
  refine .trans ?_ (toCharge_touches _ _)
  simp [touches_iff]

theorem chargeInput_touches (s : State) : Touches [.charger, .iset, .lines] s s.chargeInput := by
  unfold chargeInput
  split
  · exact toCharge_touches ..
  · split
    · exact toCharge_touches ..
    · exact .refl _ _

theorem thermFault_touches (s : State) (m : MeasTable) (c : FaultCause) :
    Touches [.charger, .iset, .lines] s (s.thermFault m c) := by
  unfold thermFault
  split
  case h_6 => simp [touches_iff]
  case h_7 | h_8 => exact .refl _ _
  all_goals exact faultCharge_touches ..

theorem progress_touches (s : State) (m : MeasTable) :
    Touches [.charger, .iset, .lines, .gauge] s (s.progress m) := by
  have hto (s : State) (new : ChargeState) : Touches [.charger, .iset, .lines, .gauge] s (s.toCharge new) :=
    (toCharge_touches s new).mono (by decide)
  unfold progress
  split
  · split <;> [exact hto ..; exact .refl _ _]
  · split <;> [exact hto ..; exact .refl _ _]
  · split
    · refine .trans ?_ (hto _ _)
      simp [touches_iff]
    · exact .refl _ _
  · split
    · split <;> [exact (pauseCharge_touches ..).mono (by decide); exact hto ..]
    · exact .refl _ _
  · exact .refl _ _

theorem changeCharge_touches (s : State) (m : MeasTable) :
    Touches [.charger, .iset, .lines, .gauge] s (s.changeCharge m) := by
  have hfault (c : FaultCause) : Touches [.charger, .iset, .lines, .gauge] s (s.faultCharge m c) :=
    (faultCharge_touches ..).mono (by decide)
  unfold changeCharge
  dsimp only
  split
  · exact (thermFault_touches ..).mono (by decide)
  · exact (thermFault_touches ..).mono (by decide)
  · split
    · exact hfault _
    split
    · exact hfault _
    split
    · exact hfault _
    split
    · exact (pauseCharge_touches ..).mono (by decide)
    split
    · split <;> [exact .refl _ _; exact (resumeCharge_touches _).mono (by decide)]
    · exact progress_touches ..

theorem transition_touches (s : State) (m : MeasTable) :
    Touches [.charger, .iset, .lines, .gauge] s (s.transition m) := by
  refine .trans ?_ (changeCharge_touches _ m)
  unfold Charge.counted
  split <;> simp [touches_iff]

theorem driveIset_touches (s : State) : Touches [.charger, .iset] s s.driveIset := by
  unfold driveIset
  split <;> simp [touches_iff]

theorem chargeRound_touches (s : State) (m : MeasTable) :
    Touches [.charger, .iset, .lines, .gauge] s (s.chargeRound m) := by
  have hthermal : Touches [.charger, .iset, .lines, .gauge] s { s with charge := s.charge.thermal m.tbat } := by
    unfold Charge.thermal
    split <;> simp [touches_iff]
  have htarget (s : State) :
      Touches [.charger, .iset, .lines, .gauge] s { s with charge := s.charge.withTarget m } := by
    simp [touches_iff, Charge.withTarget, Charge.withBudget]
  have hcount (s : State) :
      Touches [.charger, .iset, .lines, .gauge] s { s with charge := s.charge.countSafety } := by
    unfold Charge.countSafety
    split <;> simp [touches_iff]
  exact hthermal.trans ((transition_touches _ m).trans ((htarget _).trans
    (((driveIset_touches _).mono (by decide)).trans (hcount _))))

theorem qualified_touches (s : State) : Touches [.charger, .iset, .lines] s s.qualified := by
  exact .ite (pauseCharge_touches ..) (toCharge_touches ..)

theorem chargeSettings_touches (s : State) (x : ChargeSettings) :
    Touches [.chargeSettings, .charger, .iset] s (s.chargeSettings x) := by
  unfold chargeSettings
  dsimp only
  split
  · refine .andThen (ps := [.chargeSettings, .charger]) ?_ (driveIset_touches _) (by decide) (by decide)
    simp [touches_iff]
  · simp [touches_iff]

theorem enableCharge_touches (s : State) (on : Bool) : Touches [.charger, .iset, .lines] s (s.enableCharge on) := by
  have hset : Touches [.charger, .iset, .lines] s { s with charge := { s.charge with enable := on } } := by
    simp [touches_iff]
  refine hset.trans ?_
  cases on with
  | true => exact .ite (toCharge_touches ..) (.refl _ _)
  | false => exact .ite (.refl _ _) (toCharge_touches ..)

theorem chargeSoftReset_touches (s : State) : Touches [.charger, .iset, .lines] s s.chargeSoftReset := by
  refine (toCharge_touches s .off).trans (.trans ?_ (chargeInput_touches _))
  simp [touches_iff]

end State
end Sys2Proof.Machine

namespace Sys2Proof.Machine

namespace State

/-! ### Catalogue and motion -/

theorem reevaluate_touches (s : State) : Touches [.catalogue, .lines] s s.reevaluate := by
  have hraise (c : Catalogue) (n : Notice) :
      Touches [.catalogue, .lines] s (({ s with catalogue := c } : State).raise n) :=
    .andThen (withCatalogue_touches s c) (raise_touches _ n) (by decide) (by decide)
  unfold reevaluate
  dsimp only
  split
  · split
    · exact hraise _ _
    split
    · exact .refl _ _
    split
    · exact hraise _ _
    · exact hraise _ _
  · exact .refl _ _

theorem crashProtect_touches (s : State) (start : Tick) : Touches [.catalogue] s (s.crashProtect start).1 := by
  unfold crashProtect
  dsimp only
  split
  · exact .refl _ _
  split
  · exact withCatalogue_touches ..
  split
  · split
    · exact withCatalogue_touches ..
    · exact .refl _ _
  · exact .refl _ _

theorem shockEvent_touches (s : State) (e : Episode) : Touches [.catalogue, .lines] s (s.shockEvent e) :=
  .andThen (shockMark_touches ..) (raise_touches _ _) (by decide) (by decide)

theorem episodeEnd_touches (s : State) (e : Episode) :
    Touches [.samples, .catalogue, .lines] s (s.episodeEnd e) := by
  refine .andThen (shockEvent_touches s e) (qs := [.samples]) (.ite ?_ (.refl _ _)) (by decide) (by decide)
  simp [touches_iff, beginWatch]

theorem crashEvent_touches (s : State) (w : Watch) : Touches [.samples, .catalogue, .lines] s (s.crashEvent w) := by
  have hwatch : Touches [.samples, .catalogue, .lines] s { s with motion := { s.motion with watch := none } } := by
    simp [touches_iff]
  have hmark : Touches [.samples, .catalogue, .lines] _ _ :=
    .andThen (crashMark_touches (State.crashProtect { s with motion := { s.motion with watch := none } } w.start).1
      (State.crashProtect { s with motion := { s.motion with watch := none } } w.start).2 w.start w.peak)
      (raise_touches _ .crash) (by decide) (by decide)
  exact hwatch.trans (((crashProtect_touches _ _).mono (by decide)).trans hmark)

theorem crashCheck_touches (s : State) : Touches [.samples, .catalogue, .lines] s s.crashCheck := by
  unfold crashCheck
  split
  · exact .ite (crashEvent_touches ..) (.refl _ _)
  · exact .refl _ _

theorem motionStop_touches (s : State) : Touches [.samples, .catalogue, .lines] s s.motionStop := by
  have hstop : Touches [.samples, .catalogue, .lines] s
      { s with motion := { s.motion.emptyStill with episode := none, watch := none } } := by
    simp [touches_iff, Motion.emptyStill]
  refine hstop.trans ?_
  unfold motionStop
  dsimp only
  split
  · exact (shockEvent_touches ..).mono (by decide)
  · exact .refl _ _

end State

/-! ### The stages of a sample: what each leaves of the integrator -/

namespace Motion

@[simp] theorem emptyStill_settings (m : Motion) : (m.emptyStill).settings = m.settings := rfl
@[simp] theorem emptyStill_bias (m : Motion) : (m.emptyStill).bias = m.bias := rfl
@[simp] theorem emptyStill_acc (m : Motion) : (m.emptyStill).acc = m.acc := rfl
@[simp] theorem emptyStill_limit (m : Motion) : (m.emptyStill).limit = m.limit := rfl
@[simp] theorem emptyStill_prev (m : Motion) : (m.emptyStill).prev = m.prev := rfl
@[simp] theorem emptyStill_episode (m : Motion) : (m.emptyStill).episode = m.episode := rfl
@[simp] theorem emptyStill_watch (m : Motion) : (m.emptyStill).watch = m.watch := rfl
@[simp] theorem emptyStill_history (m : Motion) : (m.emptyStill).history = m.history := rfl

@[simp] theorem restarted_settings (m : Motion) : (m.restarted).settings = m.settings := rfl
@[simp] theorem restarted_bias (m : Motion) : (m.restarted).bias = m.bias := rfl
@[simp] theorem restarted_acc (m : Motion) : (m.restarted).acc = m.acc := rfl
@[simp] theorem restarted_limit (m : Motion) : (m.restarted).limit = m.limit := rfl
@[simp] theorem restarted_prev (m : Motion) : (m.restarted).prev = m.prev := rfl
@[simp] theorem restarted_episode (m : Motion) : (m.restarted).episode = m.episode := rfl
@[simp] theorem restarted_history (m : Motion) : (m.restarted).history = m.history := rfl

/-- The still window writes the bias, the count and the sums alone. -/
theorem stillWindow_eq (m : Motion) (still : Bool) (u : Axes Int) : ∃ bias count sum,
    m.stillWindow still u = { m with bias := bias, stillCount := count, stillSum := sum } := by
  unfold stillWindow
  split
  · exact ⟨_, _, _, rfl⟩
  · dsimp only
    split <;> exact ⟨_, _, _, rfl⟩

/-- The shock evaluation writes the episode and the watch alone. -/
theorem shockEval_eq (m : Motion) (tick : Tick) (k : Nat) (band : Fin 4) : ∃ episode watch,
    (m.shockEval tick k band).1 = { m with episode := episode, watch := watch } := by
  unfold shockEval
  split
  · split <;> exact ⟨_, _, rfl⟩
  · rename_i e _
    by_cases h : (if m.settings.shock ≤ k then 0 else e.quiet + 1) = 64 <;> simp only [h, if_true, if_false]
    all_goals exact ⟨_, _, rfl⟩

@[simp] theorem stillWindow_settings (m : Motion) (still : Bool) (u : Axes Int) :
    (m.stillWindow still u).settings = m.settings := by
  obtain ⟨_, _, _, h⟩ := stillWindow_eq m still u
  rw [h]
@[simp] theorem stillWindow_acc (m : Motion) (still : Bool) (u : Axes Int) :
    (m.stillWindow still u).acc = m.acc := by
  obtain ⟨_, _, _, h⟩ := stillWindow_eq m still u
  rw [h]
@[simp] theorem stillWindow_limit (m : Motion) (still : Bool) (u : Axes Int) :
    (m.stillWindow still u).limit = m.limit := by
  obtain ⟨_, _, _, h⟩ := stillWindow_eq m still u
  rw [h]
@[simp] theorem stillWindow_prev (m : Motion) (still : Bool) (u : Axes Int) :
    (m.stillWindow still u).prev = m.prev := by
  obtain ⟨_, _, _, h⟩ := stillWindow_eq m still u
  rw [h]
@[simp] theorem stillWindow_episode (m : Motion) (still : Bool) (u : Axes Int) :
    (m.stillWindow still u).episode = m.episode := by
  obtain ⟨_, _, _, h⟩ := stillWindow_eq m still u
  rw [h]
@[simp] theorem stillWindow_watch (m : Motion) (still : Bool) (u : Axes Int) :
    (m.stillWindow still u).watch = m.watch := by
  obtain ⟨_, _, _, h⟩ := stillWindow_eq m still u
  rw [h]
@[simp] theorem stillWindow_history (m : Motion) (still : Bool) (u : Axes Int) :
    (m.stillWindow still u).history = m.history := by
  obtain ⟨_, _, _, h⟩ := stillWindow_eq m still u
  rw [h]

@[simp] theorem shockEval_settings (m : Motion) (tick : Tick) (k : Nat) (band : Fin 4) :
    ((m.shockEval tick k band).1).settings = m.settings := by
  obtain ⟨_, _, h⟩ := shockEval_eq m tick k band
  rw [h]
@[simp] theorem shockEval_bias (m : Motion) (tick : Tick) (k : Nat) (band : Fin 4) :
    ((m.shockEval tick k band).1).bias = m.bias := by
  obtain ⟨_, _, h⟩ := shockEval_eq m tick k band
  rw [h]
@[simp] theorem shockEval_acc (m : Motion) (tick : Tick) (k : Nat) (band : Fin 4) :
    ((m.shockEval tick k band).1).acc = m.acc := by
  obtain ⟨_, _, h⟩ := shockEval_eq m tick k band
  rw [h]
@[simp] theorem shockEval_limit (m : Motion) (tick : Tick) (k : Nat) (band : Fin 4) :
    ((m.shockEval tick k band).1).limit = m.limit := by
  obtain ⟨_, _, h⟩ := shockEval_eq m tick k band
  rw [h]
@[simp] theorem shockEval_prev (m : Motion) (tick : Tick) (k : Nat) (band : Fin 4) :
    ((m.shockEval tick k band).1).prev = m.prev := by
  obtain ⟨_, _, h⟩ := shockEval_eq m tick k band
  rw [h]
@[simp] theorem shockEval_stillCount (m : Motion) (tick : Tick) (k : Nat) (band : Fin 4) :
    ((m.shockEval tick k band).1).stillCount = m.stillCount := by
  obtain ⟨_, _, h⟩ := shockEval_eq m tick k band
  rw [h]
@[simp] theorem shockEval_stillSum (m : Motion) (tick : Tick) (k : Nat) (band : Fin 4) :
    ((m.shockEval tick k band).1).stillSum = m.stillSum := by
  obtain ⟨_, _, h⟩ := shockEval_eq m tick k band
  rw [h]
@[simp] theorem shockEval_history (m : Motion) (tick : Tick) (k : Nat) (band : Fin 4) :
    ((m.shockEval tick k band).1).history = m.history := by
  obtain ⟨_, _, h⟩ := shockEval_eq m tick k band
  rw [h]

@[simp] theorem integrateSample_settings (m : Motion) (leak dt : Nat) (w : Axes Int) (tick : Tick) (restart : Bool) : (m.integrateSample leak dt w tick restart).settings = m.settings := rfl
@[simp] theorem integrateSample_bias (m : Motion) (leak dt : Nat) (w : Axes Int) (tick : Tick) (restart : Bool) : (m.integrateSample leak dt w tick restart).bias = m.bias := rfl
@[simp] theorem integrateSample_limit (m : Motion) (leak dt : Nat) (w : Axes Int) (tick : Tick) (restart : Bool) : (m.integrateSample leak dt w tick restart).limit = m.limit := rfl
@[simp] theorem integrateSample_prev (m : Motion) (leak dt : Nat) (w : Axes Int) (tick : Tick) (restart : Bool) : (m.integrateSample leak dt w tick restart).prev = m.prev := rfl
@[simp] theorem integrateSample_stillCount (m : Motion) (leak dt : Nat) (w : Axes Int) (tick : Tick) (restart : Bool) : (m.integrateSample leak dt w tick restart).stillCount = m.stillCount := rfl
@[simp] theorem integrateSample_stillSum (m : Motion) (leak dt : Nat) (w : Axes Int) (tick : Tick) (restart : Bool) : (m.integrateSample leak dt w tick restart).stillSum = m.stillSum := rfl
@[simp] theorem integrateSample_episode (m : Motion) (leak dt : Nat) (w : Axes Int) (tick : Tick) (restart : Bool) : (m.integrateSample leak dt w tick restart).episode = m.episode := rfl
@[simp] theorem integrateSample_watch (m : Motion) (leak dt : Nat) (w : Axes Int) (tick : Tick) (restart : Bool) : (m.integrateSample leak dt w tick restart).watch = m.watch := rfl


/-- R41: the scaled rates u of a sample. -/
def rates (m : Motion) (x : Sample) : Axes Int :=
  (m.settings.map.map fun a => a.apply x.gyro).map (scaled m.settings.gain)

/-- R47: whether a sample is still. -/
def still (m : Motion) (x : Sample) : Bool := isStill m.settings.still (m.rates x)

/-- R50: the magnitude of a sample. -/
def strength (m : Motion) (x : Sample) : Nat := magnitude (m.settings.map.map fun a => a.apply x.accel)

/-- R42: the integrator once a sample's interval is known; a RESTART has emptied the still window. -/
def started (m : Motion) (restart : Bool) (tick : Tick) : Motion :=
  { if restart then m.restarted else m with prev := some tick }

/-- R48, R50, R51: the still window and the shock evaluation of a sample. -/
def judged (m : Motion) (x : Sample) (pImu : Nat) (band : Fin 4) : Motion × Option Episode :=
  ((m.started (m.interval pImu x).2 x.tick).stillWindow (m.still x) (m.rates x)).shockEval x.tick (m.strength x) band

/-- R39: the path of one sample, stage by stage. -/
theorem absorb_eq (m : Motion) (x : Sample) (pImu : Nat) (band : Fin 4) : m.absorb x pImu band =
    (({ (m.judged x pImu band).1 with watch := (m.judged x pImu band).1.watch.bind (Watch.step (m.still x)) } :
        Motion).integrateSample (m.judged x pImu band).1.settings.leak[band] (m.interval pImu x).1
          (Axes.map2 corrected (m.rates x) m.bias) x.tick (m.interval pImu x).2,
      (m.judged x pImu band).2) := by
  unfold absorb judged started
  rcases m.interval pImu x with ⟨dt, restart⟩
  cases restart <;> rfl

@[simp] theorem started_settings (m : Motion) (restart : Bool) (tick : Tick) : (m.started restart tick).settings = m.settings := by
  cases restart <;> rfl
@[simp] theorem started_bias (m : Motion) (restart : Bool) (tick : Tick) : (m.started restart tick).bias = m.bias := by
  cases restart <;> rfl
@[simp] theorem started_acc (m : Motion) (restart : Bool) (tick : Tick) : (m.started restart tick).acc = m.acc := by
  cases restart <;> rfl
@[simp] theorem started_limit (m : Motion) (restart : Bool) (tick : Tick) : (m.started restart tick).limit = m.limit := by
  cases restart <;> rfl
@[simp] theorem started_episode (m : Motion) (restart : Bool) (tick : Tick) : (m.started restart tick).episode = m.episode := by
  cases restart <;> rfl
@[simp] theorem started_history (m : Motion) (restart : Bool) (tick : Tick) : (m.started restart tick).history = m.history := by
  cases restart <;> rfl

@[simp] theorem judged_settings (m : Motion) (x : Sample) (pImu : Nat) (band : Fin 4) :
    ((m.judged x pImu band).1).settings = m.settings := by
  simp [judged]
@[simp] theorem judged_acc (m : Motion) (x : Sample) (pImu : Nat) (band : Fin 4) :
    ((m.judged x pImu band).1).acc = m.acc := by
  simp [judged]
@[simp] theorem judged_limit (m : Motion) (x : Sample) (pImu : Nat) (band : Fin 4) :
    ((m.judged x pImu band).1).limit = m.limit := by
  simp [judged]
@[simp] theorem judged_history (m : Motion) (x : Sample) (pImu : Nat) (band : Fin 4) :
    ((m.judged x pImu band).1).history = m.history := by
  simp [judged]

@[simp] theorem absorb_settings (m : Motion) (x : Sample) (pImu : Nat) (band : Fin 4) :
    (m.absorb x pImu band).1.settings = m.settings := by
  simp [absorb_eq]

@[simp] theorem absorb_limit (m : Motion) (x : Sample) (pImu : Nat) (band : Fin 4) :
    (m.absorb x pImu band).1.limit = m.limit := by
  simp [absorb_eq]

end Motion

end Sys2Proof.Machine

namespace Sys2Proof.Machine

namespace State

/-- R39: the integrator's part of a sample, the examination of the bands, and what the sample ends. -/
theorem sample_eq (s : State) (x : Sample) : s.sample x =
    match (s.motion.absorb x s.link.settings.pImu s.wheel.band).2 with
    | some e => ({ s with motion :=
        (s.motion.absorb x s.link.settings.pImu s.wheel.band).1 } : State).examine.episodeEnd e
    | none => ({ s with motion :=
        (s.motion.absorb x s.link.settings.pImu s.wheel.band).1 } : State).examine.crashCheck := by
  unfold sample
  rcases s.motion.absorb x s.link.settings.pImu s.wheel.band with ⟨m, ended⟩
  rfl

theorem sample_touches (s : State) (x : Sample) :
    Touches [.angles, .bias, .samples, .bands, .corrections, .lines, .catalogue] s (s.sample x) := by
  have habsorb : Touches [.angles, .bias, .samples, .bands, .corrections, .lines, .catalogue] s
      { s with motion := (s.motion.absorb x s.link.settings.pImu s.wheel.band).1 } := by
    simp [touches_iff]
  refine habsorb.trans (((examine_touches _).mono (by decide)).trans ?_)
  rw [sample_eq]
  split
  · exact (episodeEnd_touches ..).mono (by decide)
  · exact (crashCheck_touches _).mono (by decide)

/-! ### The link -/

theorem dropAll_touches (q : List Access) (s : State) : Touches [.slots] s (q.foldl dropAccess s) := by
  induction q generalizing s with
  | nil => exact .refl _ _
  | cons a q ih => exact (complete_touches ..).trans (ih _)

/-- What the link's leaving its powered states can touch. -/
def downPieces : List Piece := [.linkMode, .bus, .queue, .drdy, .slots, .samples, .catalogue, .lines]

theorem linkDown_touches (s : State) (x : LinkState) : Touches downPieces s (s.linkDown x) := by
  have hdrop := (dropAll_touches s.link.queue s).mono (qs := downPieces) (by decide)
  refine hdrop.trans (.trans ?_ (.ite ((motionStop_touches _).mono (by decide)) (.refl _ _)))
  simp [touches_iff, emptied, Channels.put, downPieces]

theorem linkStop_touches (s : State) : Touches downPieces s s.linkStop :=
  .ite (.refl _ _) (linkDown_touches ..)

theorem attemptFails_touches (s : State) : Touches downPieces s s.attemptFails := by
  refine .ite ((linkDown_touches s .recovering).trans ?_) ((linkDown_touches s .failed).trans ?_)
  · simp [touches_iff, downPieces]
  · exact (raise_touches _ _).mono (by decide)

theorem powerUp_touches (s : State) : Touches [.linkMode] s s.powerUp := by
  simp [touches_iff, powerUp]

theorem onBus_touches (s : State) (b : Bus) : Touches [.bus] s (s.onBus b) := by
  simp [touches_iff, onBus]

theorem enterRunning_touches (s : State) : Touches [.linkMode, .bus, .lines] s s.enterRunning := by
  refine .trans ?_ (.ite ((raise_touches _ _).mono (by decide)) (.refl _ _))
  simp [touches_iff]

theorem replay_touches (s : State) (i : Nat) : Touches [.linkMode, .bus, .lines] s (s.replay i) := by
  unfold replay
  split
  · exact (onBus_touches ..).mono (by decide)
  · exact enterRunning_touches s

theorem bankWritten_touches (s : State) : Touches [.linkMode, .bus, .lines] s s.bankWritten := by
  unfold bankWritten
  split
  · exact .ite ((onBus_touches ..).mono (by decide)) (replay_touches ..)
  · exact .refl _ _

theorem verified_touches (s : State) (v : Byte) : Touches downPieces s (s.verified v) := by
  unfold verified
  split
  · exact .ite ((replay_touches ..).mono (by decide)) (attemptFails_touches s)
  · exact .refl _ _

theorem serveBus_touches (s : State) (gap : Bool) : Touches [.bus, .drdy] s (s.serveBus gap) := by
  unfold serveBus
  split
  · simp [touches_iff, emptied, Channels.put]
  · split <;> exact (onBus_touches ..).mono (by decide)

theorem drdyRunning_touches (s : State) : Touches [.linkMode, .bus, .drdy] s s.drdyRunning := by
  have hstall : Touches [.linkMode, .bus, .drdy] s
      { s with link := { s.link with stall := some (later s.tick s.link.stallSpan) } } := by
    simp [touches_iff]
  refine hstall.trans (.ite ?_ ?_)
  · simp [touches_iff, onBus, emptied, capture, Channels.put]
  · simp [touches_iff, capture, Channels.put]

theorem burstDone_touches (s : State) (bytes : Vector Byte 12) :
    Touches [.angles, .bias, .samples, .bands, .corrections, .lines, .catalogue, .gaps, .bus, .drdy] s
      (s.burstDone bytes) := by
  unfold burstDone
  split
  · rename_i t _ _
    have hsample := sample_touches s (assemble s.link.settings.order bytes t s.link.first)
    refine hsample.andThen (qs := [.gaps, .bus, .drdy]) (.trans ?_ ((serveBus_touches _ _).mono (by decide)))
      (by decide) (by decide)
    simp [touches_iff]
  · exact .refl _ _

theorem passDone_touches (s : State) (v : Byte) : Touches [.slots, .queue, .bus, .drdy] s (s.passDone v) := by
  unfold passDone
  split
  · rename_i a _
    have hanswer := complete_touches s a.ticket .ok [a.addr, if a.write then a.data else v]
    refine hanswer.andThen (qs := [.queue, .bus, .drdy]) (.trans ?_ ((serveBus_touches _ _).mono (by decide)))
      (by decide) (by decide)
    simp [touches_iff]
  · exact .refl _ _

theorem joinAccess_touches (s : State) (a : Access) : Touches [.queue, .bus] s (s.joinAccess a) := by
  refine .trans ?_ (.ite ((onBus_touches ..).mono (by decide)) (.refl _ _))
  simp [touches_iff]

/-! ### The store, the rail and the supply -/

theorem seal_touches (s : State) (cause : CutCause) : Touches [.catalogue, .lines, .gates] s (s.seal cause) := by
  have hcut (x : Clip) : Touches [.catalogue, .lines, .gates] s (s.cutClip x cause) := by
    refine .andThen (ps := [.catalogue]) ?_ (raise_touches _ _) (by decide) (by decide)
    simp [touches_iff]
  have hgate (u : State) :
      Touches [.catalogue, .lines, .gates] u { u with store := { u.store with gate := .closed } } := by
    simp [touches_iff]
  unfold State.seal
  cases s.catalogue.openClip with
  | none => exact .ite (hgate s) (.refl _ _)
  | some x => exact (hcut x).trans (.ite (hgate _) (.refl _ _))

/-- What the media rail's going off can touch. -/
def railPieces : List Piece := [.rail, .ftrig, .tracker, .bands, .corrections, .slots, .pairs, .queue]

theorem railEffects_touches (s : State) : Touches railPieces s s.railEffects := by
  refine .trans ?_ (((frameRailOff_touches _).mono (by decide)).trans ((abandon_touches _ .a).mono (by decide)))
  simp [touches_iff, railPieces]

theorem railGoesOff_touches (s : State) (st : Option Status) : Touches railPieces s (s.railGoesOff st) := by
  refine .ite (.refl _ _) ?_
  split
  · exact (railEffects_touches s).trans ((finish_touches ..).mono (by decide))
  · exact railEffects_touches s

theorem startRail_touches (s : State) (p : Port) (pg : Level) : Touches [.rail] s (s.startRail p pg).1 := by
  cases pg <;> simp [touches_iff, startRail]

theorem railUp_touches (s : State) : Touches [.rail, .slots] s s.railUp := by
  unfold railUp
  split
  · refine .trans ?_ ((complete_touches ..).mono (by decide))
    simp [touches_iff]
  · exact .refl _ _

theorem railOff_touches (s : State) : Touches (railPieces ++ [.catalogue, .lines, .gates]) s s.railOff :=
  .andThen (Touches.ite (seal_touches s .forced) (.refl _ _)) (railGoesOff_touches _ _) (by decide) (by decide)

theorem supplyNormal_touches (s : State) : Touches [.mode, .inputs, .gates, .lines] s s.supplyNormal := by
  refine .trans ?_ ((raise_touches _ _).mono (by decide))
  simp [touches_iff]

/-- What a fall of the supply below one of its levels can touch. -/
def fallPieces : List Piece := [.mode, .inputs, .gates] ++ railPieces ++ downPieces

theorem enterFinishing_touches (s : State) : Touches ([.mode, .inputs, .lines] ++ railPieces) s s.enterFinishing := by
  have hraise : Touches ([.mode, .inputs, .lines] ++ railPieces) s (({ s with supply := { s.supply with
      state := .finishing, pwrfail := .high, debounce := none
      hold := some (later s.tick s.supply.settings.hold) } } : State).raise .supplyLow) := by
    refine .trans ?_ ((raise_touches _ _).mono (by decide))
    simp [touches_iff]
  unfold enterFinishing
  dsimp only
  split
  · exact hraise.trans ((railGoesOff_touches ..).mono (by decide))
  · exact hraise

theorem shutDown_touches (s : State) (cause : CutCause) : Touches fallPieces s (s.shutDown cause) := by
  refine ((seal_touches s cause).mono (by decide)).trans (((railGoesOff_touches _ (some .wrongState)).mono
    (by decide)).trans (((linkStop_touches _).mono (by decide)).trans ?_))
  simp [touches_iff, shutDown, fallPieces]

theorem hardCut_touches (s : State) : Touches fallPieces s s.hardCut :=
  (shutDown_touches s .hardCut).trans (.ite ((raise_touches _ _).mono (by decide)) (.refl _ _))

theorem inputBecomes_touches (s : State) (x : InputState) :
    Touches [.mode, .inputs, .gates, .lines] s (s.inputBecomes x) := by
  have hset : Touches [.mode, .inputs, .gates, .lines] s (({ s with supply := { s.supply with
      input := x, present := none, ride := none } } : State).raise .inputChanged) := by
    refine .trans ?_ ((raise_touches _ _).mono (by decide))
    simp [touches_iff]
  refine hset.trans ?_
  cases x with
  | absent => exact .refl _ _
  | present =>
    refine .trans ?_ (.ite (.refl _ _) (supplyNormal_touches _))
    simp [touches_iff]

theorem applyInput_touches (s : State) (m : MeasTable) :
    Touches [.mode, .inputs, .gates, .lines] s (s.applyInput m) := by
  refine .ite ?_ ?_
  · refine .trans ?_ (.ite (inputBecomes_touches _ _) (.refl _ _))
    simp [touches_iff]
  · split
    · simp [touches_iff, roundAbsent]
    · refine .ite (.ite (inputBecomes_touches _ _) ?_) ?_ <;> simp [touches_iff]

theorem judgeNormal_touches (s : State) (m : MeasTable) (first : Bool) :
    Touches fallPieces s (s.judgeNormal m first) := by
  refine .ite (.ite ((enterFinishing_touches s).mono (by decide)) ?_) ?_ <;> simp [touches_iff, fallPieces]

theorem judge_touches (s : State) (m : MeasTable) (first : Bool) : Touches fallPieces s (s.judge m first) := by
  refine .ite (hardCut_touches s) ?_
  split
  · exact judgeNormal_touches ..
  all_goals exact .ite ((supplyNormal_touches s).mono (by decide)) (.refl _ _)

/-- What a measurement round can touch. -/
def roundPieces : List Piece := fallPieces ++ [.charger, .iset, .gauge]

theorem chargeAndGauge_touches (s : State) (m : MeasTable) (gaugeFirst : Bool) :
    Touches [.charger, .iset, .lines, .gauge] s (s.chargeAndGauge m gaugeFirst) := by
  have hadd (u : State) : Touches [.charger, .iset, .lines, .gauge] u { u with gauge := u.gauge.add m.ibat } := by
    simp [touches_iff]
  cases gaugeFirst with
  | true => exact (hadd s).trans (chargeRound_touches _ m)
  | false => exact (chargeRound_touches s m).trans (hadd _)

theorem work_touches (m : MeasTable) (first changed gaugeFirst : Bool) (s : State) (w : RoundWork) :
    Touches roundPieces s (State.work m first changed gaugeFirst s w) := by
  cases w with
  | supply => exact (judge_touches s m first).mono (by decide)
  | input => exact .ite ((chargeInput_touches s).mono (by decide)) (.refl _ _)
  | charge => exact (chargeAndGauge_touches ..).mono (by decide)

theorem works_touches (m : MeasTable) (first changed gaugeFirst : Bool) (ws : List RoundWork) (s : State) :
    Touches roundPieces s (ws.foldl (State.work m first changed gaugeFirst) s) := by
  induction ws generalizing s with
  | nil => exact .refl _ _
  | cons w ws ih => exact (work_touches ..).trans (ih _)

theorem round_touches (s : State) (r : RawMeas) (o : RoundOrder) : Touches roundPieces s (s.round r o) := by
  have htable : Touches roundPieces s
      { s with supply := { s.supply with table := some (RawMeas.table r s.tick) } } := by
    simp [touches_iff]
  exact htable.trans (((applyInput_touches _ _).mono (by decide)).trans (works_touches ..))

/-! ### The wheel and SOFT_RESET -/

theorem qualify_touches (s : State) (c : PendingChange) : Touches [.wheel] s (s.qualify c) := by
  unfold qualify
  dsimp only
  split <;> simp [touches_iff, emptied, capture, Channels.put]

theorem wheelRaw_touches (s : State) (l : Level) : Touches [.wheel] s (s.wheelRaw l) := by
  have hraw : Touches [.wheel] s { s with qualifier := { s.qualifier with raw := l } } := by simp [touches_iff]
  refine hraw.trans (.ite ?_ (.ite (qualify_touches _ _) ?_)) <;> simp [touches_iff]

theorem requalify_touches (s : State) : Touches [.wheel] s s.requalify := by
  unfold requalify
  split
  · exact .ite (qualify_touches ..) (.refl _ _)
  · exact .refl _ _

theorem portsSoftReset_touches (s : State) : Touches [.slots, .pairs, .queue, .lines] s s.portsSoftReset := by
  refine .trans ((abandon_touches s .a).mono (by decide)) ?_
  simp [touches_iff, portsSoftReset, PortState.withMask, PortState.LinesOk]
  exact fun _ hA _ hB => ⟨hA, hB⟩

/-- What the motion and frame blocks' part of SOFT_RESET can touch. -/
def motionResetPieces : List Piece :=
  [.wheel, .drdy, .ftrig, .linkMode, .bus, .queue, .gaps, .bias, .angles, .samples, .tracker, .bands, .corrections]

theorem motionSoftReset_touches (s : State) : Touches motionResetPieces s s.motionSoftReset := by
  simp [touches_iff, motionSoftReset, motionResetPieces, wheelSoftReset, Link.softReset, Motion.atReset, Frames.atReset]

/-- What an accepted SOFT_RESET can touch. -/
def softResetPieces : List Piece := motionResetPieces ++ [.rail, .slots, .pairs, .lines, .charger, .iset]

theorem softReset_touches (s : State) : Touches softResetPieces s s.softReset :=
  ((railGoesOff_touches s none).mono (by decide)).trans (((portsSoftReset_touches _).mono (by decide)).trans
    (((motionSoftReset_touches _).mono (by decide)).trans ((chargeSoftReset_touches _).mono (by decide))))

end State
end Sys2Proof.Machine

namespace Sys2Proof.Machine

/-! ### What a command can answer -/

namespace State

/-- A command under `whenPowered` leaves the state as it is, or VSYS is present and it acts. -/
theorem whenPowered_cases {f : State → State} {s t : State} (h : s.whenPowered f = .next t) :
    t = s ∨ (s.store.vsys = true ∧ t = f s) := by
  cases hv : s.store.vsys
  · rw [whenPowered_off f hv] at h
    cases h
    exact .inl rfl
  · rw [whenPowered_on f hv] at h
    cases h
    exact .inr ⟨rfl, rfl⟩

/-- An event leaves the state as it is, or VSYS is present, the part can have the event, and it acts. -/
theorem event_cases {cond : State → Bool} {f : State → State} {s t : State} (h : State.event cond f s = .next t) :
    t = s ∨ (s.store.vsys = true ∧ cond s = true ∧ t = f s) := by
  obtain rfl | ⟨hv, rfl⟩ := whenPowered_cases h
  · exact .inl rfl
  · cases hc : cond s
    · exact .inl rfl
    · exact .inr ⟨hv, rfl, rfl⟩

/-- A request leaves the state as it is, is refused BUSY, fails a check, or acts by its own rule. -/
theorem doRequest_cases {k : Kind} {act : Port → List Byte → State → State × Reply} {p : Port} {f : Frame}
    {s t : State} (h : s.doRequest k act p f = .next t) :
    t = s ∨ t = s.refuseBusy p f
    ∨ (s.store.vsys = true ∧ (s.port p).met f.began ≠ .working ∧ ∃ st, t = s.replied p f (reply st k []))
    ∨ (s.Admits p k f ∧ t = State.settle p k (act p f.body (s.take p (Kind.code k) f))) := by
  cases hv : s.store.vsys with
  | false =>
    rw [doRequest_unpowered act hv] at h
    cases h
    exact .inl rfl
  | true =>
    by_cases hw : (s.port p).met f.began = .working
    · rw [doRequest_busy act f hv hw] at h
      cases h
      exact .inr (.inl rfl)
    · cases hp : s.precheck p k f with
      | some st =>
        rw [doRequest_refused act hv hw hp] at h
        cases h
        exact .inr (.inr (.inl ⟨rfl, hw, st, rfl⟩))
      | none =>
        rw [doRequest_admitted act ⟨hv, hw, hp⟩] at h
        cases h
        exact .inr (.inr (.inr ⟨⟨hv, hw, hp⟩, rfl⟩))

theorem settle_touches (p : Port) (k : Kind) (u : State × Reply) : Touches [.slots] u.1 (State.settle p k u) := by
  obtain ⟨u, r⟩ := u
  cases r with
  | done st b => exact answer_touches ..
  | inFlight => exact .refl _ _

theorem replied_touches (s : State) (p : Port) (f : Frame) (a : Answer) : Touches [.slots] s (s.replied p f a) := by
  cases p <;> simp [touches_iff, replied, setPort, port]

theorem doRequest_touches {k : Kind} {act : Port → List Byte → State → State × Reply} {p : Port} {f : Frame}
    {s t : State} {ps : List Piece} (hact : ∀ b u, Touches ps u (act p b u).1) (h : s.doRequest k act p f = .next t) :
    Touches (.slots :: ps) s t := by
  have hslots {u v : State} (hu : Touches [.slots] u v) : Touches (.slots :: ps) u v := hu.mono (by simp)
  obtain rfl | rfl | ⟨-, -, st, rfl⟩ | ⟨-, rfl⟩ := doRequest_cases h
  · exact .refl _ _
  · exact hslots (refuseBusy_touches ..)
  · exact hslots (replied_touches ..)
  · exact (hslots (take_touches ..)).trans (((hact _ _).mono fun _ => List.mem_cons_of_mem _).trans (hslots (settle_touches ..)))

theorem whenPowered_touches {f : State → State} {s t : State} {ps : List Piece} (hf : ∀ u, Touches ps u (f u))
    (h : s.whenPowered f = .next t) : Touches ps s t := by
  obtain rfl | ⟨-, rfl⟩ := whenPowered_cases h
  · exact .refl _ _
  · exact hf s

theorem event_touches {cond : State → Bool} {f : State → State} {s t : State} {ps : List Piece}
    (hf : ∀ u, Touches ps u (f u)) (h : State.event cond f s = .next t) : Touches ps s t := by
  obtain rfl | ⟨-, -, rfl⟩ := event_cases h
  · exact .refl _ _
  · exact hf s

end State

end Sys2Proof.Machine

namespace Sys2Proof

/-! ### The own rule of each kind of request -/

/-- The own rule of each request kind; `pg` is the level of MRAIL_PG that RAIL_ON finds. -/
def Kind.rule (pg : Level) : Kind → Port → List Byte → Machine.State → Machine.State × Machine.Reply
  | .identify => Machine.identify
  | .noticeRead => Machine.noticeRead
  | .noticeMask => Machine.noticeMask
  | .policySet => Machine.policySet
  | .policyLock => Machine.policyLock
  | .softReset => Machine.softReset
  | .timeRead => Machine.timeRead
  | .timePair => Machine.timePair
  | .wheelSet => Machine.wheelSet
  | .wheelRead => Machine.wheelRead
  | .imuLinkSet => Machine.imuLinkSet
  | .imuBankWrite => Machine.imuBankWrite
  | .imuBankRead => Machine.imuBankRead
  | .imuStart => Machine.imuStart
  | .imuStop => Machine.imuStop
  | .imuAccess => Machine.imuAccess
  | .imuStatus => Machine.imuStatus
  | .motionSet => Machine.motionSet
  | .biasSet => Machine.biasSet
  | .motionRead => Machine.motionRead
  | .lensSet => Machine.lensSet
  | .frameStart => Machine.frameStart
  | .frameStop => Machine.frameStop
  | .corrRead => Machine.corrRead
  | .frameStatus => Machine.frameStatus
  | .cardSet => Machine.cardSet
  | .formatCatalogue => Machine.formatCatalogue
  | .clipOpen => Machine.clipOpen
  | .clipReserve => Machine.clipReserve
  | .clipProgress => Machine.clipProgress
  | .clipClose => Machine.clipClose
  | .clipDeleted => Machine.clipDeleted
  | .clipProtect => Machine.clipProtect
  | .clipUnprotect => Machine.clipUnprotect
  | .clipForget => Machine.clipForget
  | .clipRead => Machine.clipRead
  | .clipList => Machine.clipList
  | .cardRead => Machine.cardRead
  | .markUser => Machine.markUser
  | .markRead => Machine.markRead
  | .recoveryRead => Machine.recoveryRead
  | .recoveryClear => Machine.recoveryClear
  | .supplySet => Machine.supplySet
  | .supplyRead => Machine.supplyRead
  | .railOn => Machine.railOn pg
  | .railOff => Machine.railOff
  | .chargeSet => Machine.chargeSet
  | .chargeEnable => Machine.chargeEnable
  | .powerTableSet => Machine.powerTableSet
  | .powerClass => Machine.powerClass
  | .faultClear => Machine.faultClear
  | .chargeRead => Machine.chargeRead
  | .gaugeSet => Machine.gaugeSet
  | .gaugeRead => Machine.gaugeRead

/-- What the own rule of each request kind can touch. -/
def Kind.touches : Kind → List Machine.Piece
  | .noticeRead | .noticeMask => [.lines]
  | .policySet | .policyLock => [.policy]
  | .softReset => Machine.State.softResetPieces
  | .timePair => [.pairs]
  | .wheelSet => [.wheel]
  | .imuLinkSet => [.linkSettings]
  | .imuStart => [.linkMode, .gaps]
  | .imuStop => Machine.State.downPieces
  | .imuAccess => [.queue, .bus]
  | .motionSet => [.motionSettings, .samples]
  | .biasSet => [.bias, .samples]
  | .lensSet => [.lens, .angles]
  | .frameStart => [.ftrig, .tracker, .lines]
  | .frameStop => [.ftrig, .tracker, .bands]
  | .corrRead => [.corrections]
  | .cardSet | .formatCatalogue | .clipOpen | .clipReserve | .clipProgress | .clipClose | .clipProtect => [.catalogue]
  | .clipDeleted | .clipUnprotect | .clipForget => [.catalogue, .lines]
  | .markUser => [.catalogue]
  | .supplySet => [.supplySettings]
  | .railOn => [.rail]
  | .railOff => Machine.State.railPieces ++ [.catalogue, .lines, .gates]
  | .chargeSet => [.chargeSettings, .charger, .iset]
  | .chargeEnable | .faultClear => [.charger, .iset, .lines]
  | .powerTableSet => [.classTable]
  | .gaugeSet => [.gauge]
  | .identify | .timeRead | .wheelRead | .imuBankWrite | .imuBankRead | .imuStatus | .motionRead | .frameStatus => []
  | .clipRead | .clipList | .cardRead | .markRead | .recoveryRead | .recoveryClear | .supplyRead => []
  | .powerClass | .chargeRead | .gaugeRead => []

end Sys2Proof

namespace Sys2Proof.Machine

/-- Every request command goes through the checks of R188 to R194 to the own rule of its kind. -/
theorem exec_request {c : Instr} {k : Kind} {p : Port} {f : Frame} (h : c.asRequest = some (k, p, f)) :
    ∃ pg, ∀ s, exec c s = s.doRequest k (Kind.rule pg k) p f := by
  cases c
  case railOn p f pg => cases h; exact ⟨pg, fun _ => rfl⟩
  all_goals cases h
  all_goals exact ⟨.low, fun _ => rfl⟩

namespace State

/-! ### What each own rule touches -/

theorem removeClip_touches (s : State) (c : Catalogue) :
    Touches [.catalogue, .lines] s ({ s with catalogue := c } : State).reevaluate :=
  .andThen (withCatalogue_touches s c) (reevaluate_touches _) (by decide) (by decide)

theorem rule_touches (pg : Level) (k : Kind) (p : Port) (b : List Byte) (s : State) :
    Touches k.touches s (Kind.rule pg k p b s).1 := by
  cases k with
  | noticeRead =>
    cases p <;> simp [touches_iff, Kind.rule, Kind.touches, noticeRead, setPort, port, PortState.withNotices,
      PortState.LinesOk] <;> tauto
  | noticeMask =>
    simp only [Kind.rule, noticeMask]
    split
    · cases p <;> simp [touches_iff, Kind.touches, setPort, port, PortState.withMask, PortState.LinesOk] <;> tauto
    · exact .refl _ _
  | policySet =>
    simp only [Kind.rule, policySet]
    split
    · exact .refl _ _
    split
    · exact .refl _ _
    · simp [touches_iff, Kind.touches]
  | policyLock => simp [touches_iff, Kind.rule, Kind.touches, policyLock]
  | softReset =>
    simp only [Kind.rule, Machine.softReset]
    split
    · exact .refl _ _
    · exact softReset_touches s
  | timePair => exact setPair_touches ..
  | wheelSet =>
    simp only [Kind.rule, wheelSet]
    split
    · refine .trans ?_ (requalify_touches _)
      simp [touches_iff, Kind.touches]
    · exact .refl _ _
  | imuLinkSet =>
    simp only [Kind.rule, imuLinkSet]
    split
    · exact .refl _ _
    split
    · exact .refl _ _
    · simp [touches_iff, Kind.touches]
  | imuBankWrite =>
    simp only [Kind.rule, imuBankWrite]
    split
    · split
      · exact .refl _ _
      split
      · exact .refl _ _
      · simp [touches_iff, Kind.touches]
    · exact .refl _ _
  | imuBankRead =>
    simp only [Kind.rule, imuBankRead]
    split <;> exact .refl _ _
  | imuStart =>
    simp only [Kind.rule, imuStart]
    split
    · refine .andThen (ps := [.gaps, .linkMode]) ?_ (powerUp_touches _) (by decide) (by decide)
      simp [touches_iff]
    · exact .refl _ _
  | imuStop => exact linkStop_touches s
  | imuAccess =>
    simp only [Kind.rule, imuAccess]
    split
    · exact .refl _ _
    split
    · exact .refl _ _
    split
    · exact .refl _ _
    · exact joinAccess_touches ..
  | motionSet =>
    simp only [Kind.rule, motionSet]
    split
    · simp [touches_iff, Kind.touches]
    · exact .refl _ _
  | biasSet => simp [touches_iff, Kind.rule, Kind.touches, biasSet]
  | lensSet => simp [touches_iff, Kind.rule, Kind.touches, lensSet, Motion.repin]
  | frameStart =>
    simp only [Kind.rule, Machine.frameStart]
    split
    · exact .refl _ _
    split
    · exact .refl _ _
    · exact frameStart_touches ..
  | frameStop => exact frameStop_touches s
  | corrRead => simp [touches_iff, Kind.rule, Kind.touches, corrRead]
  | cardSet | formatCatalogue | clipOpen | clipReserve | clipProgress | clipClose | clipProtect | markUser =>
    simp only [Kind.rule, cardSet, formatCatalogue, clipOpen, clipReserve, clipProgress, clipClose, clipProtect,
      markUser]
    repeat' split
    all_goals first | exact .refl _ _ | exact withCatalogue_touches ..
  | clipDeleted | clipUnprotect | clipForget =>
    simp only [Kind.rule, clipDeleted, clipUnprotect, clipForget]
    repeat' split
    all_goals first | exact .refl _ _ | exact removeClip_touches ..
  | markRead | clipRead | clipList =>
    simp only [Kind.rule, markRead, clipRead, clipList]
    repeat' split
    all_goals exact .refl _ _
  | recoveryClear =>
    simp only [Kind.rule, recoveryClear]
    repeat' split
    all_goals simp [touches_iff]
  | supplySet =>
    simp only [Kind.rule, supplySet]
    split
    · simp [touches_iff, Kind.touches]
    · exact .refl _ _
  | railOn =>
    simp only [Kind.rule, railOn]
    split
    · exact .refl _ _
    split
    · exact .refl _ _
    · exact .refl _ _
    split
    · exact startRail_touches ..
    · exact .refl _ _
  | railOff =>
    simp only [Kind.rule, Machine.railOff]
    split
    · exact .refl _ _
    split
    · exact .refl _ _
    · exact railOff_touches s
  | chargeSet => exact chargeSettings_touches ..
  | chargeEnable =>
    simp only [Kind.rule, chargeEnable]
    split
    · exact .refl _ _
    · exact enableCharge_touches ..
  | faultClear =>
    simp only [Kind.rule, faultClear]
    split
    · exact toCharge_touches ..
    · exact .refl _ _
  | powerTableSet => simp [touches_iff, Kind.rule, Kind.touches, powerTableSet]
  | powerClass =>
    simp only [Kind.rule, powerClass]
    split
    · simp [touches_iff]
    · exact .refl _ _
  | gaugeSet => simp [touches_iff, Kind.rule, Kind.touches, gaugeSet]
  | identify | timeRead | wheelRead | imuStatus | motionRead | frameStatus | cardRead | recoveryRead | supplyRead
    | chargeRead | gaugeRead => exact .refl _ _

end State
end Sys2Proof.Machine

namespace Sys2Proof.Machine

/-! ### What each command touches -/

/-- Every piece but the queue of commands, which only a step touches. -/
def Piece.all : List Piece :=
  [.tick, .epoch, .gates, .drdy, .wheel, .pairs, .ftrig, .iset, .linkSettings, .linkMode, .bus, .queue, .gaps,
    .motionSettings, .bias, .angles, .samples, .lens, .tracker, .bands, .corrections, .catalogue, .supplySettings,
    .mode, .inputs, .rail, .chargeSettings, .classTable, .charger, .gauge, .slots, .lines, .policy]

/-- The generator of a pulse command. -/
def pulsePiece : GenId → Piece
  | .ftrig => .ftrig
  | .iset => .iset

end Sys2Proof.Machine

namespace Sys2Proof

open Machine in
/-- What each command can touch. -/
def Instr.touches : Instr → List Piece
  | .por _ _ => Piece.all
  | .vsysLoss | .retentionLoss | .comparatorFall | .comparatorRise => [.gates]
  | .tickCounterAdvance => [.tick]
  | .syncCapture _ | .pairingTimeout _ => [.pairs, .slots]
  | .wheelRawChange _ | .wheelQualification | .stopTimerExpiry => [.wheel]
  | .generatorPeriodStart .ftrig => [.ftrig, .tracker, .lines]
  | .generatorPeriodStart .iset => [.iset]
  | .generatorWidthEnd g => [pulsePiece g]
  | .startupExpiry => [.linkMode, .bus]
  | .identityReadComplete _ | .verifyReadComplete _ | .stallExpiry => State.downPieces
  | .bankWriteComplete => [.linkMode, .bus, .lines]
  | .recoveryExpiry => [.linkMode]
  | .drdyCapture => [.linkMode, .bus, .drdy]
  | .sampleBurstComplete _ =>
    [.angles, .bias, .samples, .bands, .corrections, .lines, .catalogue, .gaps, .bus, .drdy]
  | .passThroughComplete _ => [.slots, .queue, .bus, .drdy]
  | .watchTimerExpiry => [.samples]
  | .windowExpiry => [.tracker, .lines]
  | .fstCapture => [.tracker, .bands, .corrections, .lines, .catalogue]
  | .fenCapture => [.tracker]
  | .bandDeadlineExpiry _ _ => [.bands, .corrections, .lines, .catalogue]
  | .measurementRound _ _ => State.roundPieces
  | .presentQualificationExpiry | .rideThroughExpiry => [.mode, .inputs, .gates, .lines, .charger, .iset]
  | .batteryLowDebounceExpiry => [.mode, .inputs, .lines] ++ State.railPieces
  | .holdExpiry => State.fallPieces
  | .mrailPgRise => [.rail, .slots]
  | .rampTimeout => State.railPieces
  | .qualificationExpiry => [.charger, .iset, .lines]
  | .fetch _ _ | .busyRefusal _ _ _ | .unknownKind _ _ _ => [.slots]
  | c => match c.asRequest with
    | some (k, _, _) => .slots :: k.touches
    | none => []

end Sys2Proof

namespace Sys2Proof.Machine

theorem Instr.touches_request {c : Instr} {k : Kind} {p : Port} {f : Frame} (h : c.asRequest = some (k, p, f)) :
    c.touches = .slots :: k.touches := by
  cases c <;> cases h <;> rfl

namespace State

theorem atPor_linesOk (p : Port) : PortState.atPor.LinesOk p := by
  cases p <;> decide

theorem por_touches (s : State) (v : Nat) (l : Level) : Touches Piece.all s (s.por v l) := by
  refine ⟨fun p hp => ?_, fun _ => noticesOk_raise _ _ ⟨atPor_linesOk .a, atPor_linesOk .b⟩⟩
  cases p <;> simp_all [Piece.all, por]

theorem fetch_touches {s t : State} {p : Port} {n : Nat} (h : exec (.fetch p n) s = .next t) : Touches [.slots] s t := by
  dsimp only [exec] at h
  refine whenPowered_touches (fun u => ?_) h
  cases p <;> simp [touches_iff, setPort, port]

theorem unknownRequest_touches (s : State) (p : Port) (kind : Byte) (f : Frame) :
    Touches [.slots] s (s.unknownRequest p kind f) :=
  .ite (refuseBusy_touches ..) ((take_touches ..).trans (answer_touches ..))

theorem setGen_touches (s : State) (g : GenId) (x : Generator) : Touches [pulsePiece g] s (s.setGen g x) := by
  cases g <;> simp [touches_iff, setGen, pulsePiece]

theorem endPairing_touches (s : State) (p : Port) (st : Status) (b : List Byte) :
    Touches [.pairs, .slots] s (s.endPairing p st b) := by
  unfold endPairing
  split
  · exact .andThen (setPair_touches s p _) (complete_touches ..) (by decide) (by decide)
  · exact .refl _ _

/-- A capture taken at once by its consumer, which then acts. -/
theorem taken_touches {ps : List Piece} {ch : Channel} {f : State → State} (s : State) (t : Tick) (hch : ch ≠ .drdy)
    (hf : ∀ u, Touches ps u (f u)) : Touches ps s (f ((s.capture ch t).emptied ch)) := by
  rw [emptied_capture]
  exact ((emptied_touches s ch hch).mono (by simp)).trans (hf _)

end State

open State

/-- The commands that are no request touch what `Instr.touches` lists. -/
theorem event_exec_touches {c : Instr} {s t : State} (hc : c.asRequest = none) (h : exec c s = .next t) :
    Touches c.touches s t := by
  cases c <;> dsimp only [exec] at h
  case por v l => cases h; exact por_touches ..
  case vsysLoss => exact whenPowered_touches (ps := [.gates]) (fun u => by simp [touches_iff]) h
  case tickCounterAdvance => exact whenPowered_touches (ps := [.tick]) (fun u => by simp [touches_iff]) h
  case retentionLoss =>
    cases h
    exact Touches.ite (ps := [.gates]) (.refl _ _) (by simp [touches_iff])
  case comparatorFall | comparatorRise => exact event_touches (ps := [.gates]) (fun u => by simp [touches_iff]) h
  case stopTimerExpiry => exact event_touches (ps := [.wheel]) (fun u => by simp [touches_iff]) h
  case startupExpiry => exact event_touches (ps := [.linkMode, .bus]) (fun u => by simp [touches_iff]) h
  case watchTimerExpiry => exact event_touches (ps := [.samples]) (fun u => by simp [touches_iff]) h
  case syncCapture p =>
    exact whenPowered_touches (fun u => taken_touches u _ (by cases p <;> decide) fun v =>
      endPairing_touches v p .ok (encStamp v.stamp)) h
  case pairingTimeout p => exact event_touches (fun u => endPairing_touches u p .timeout []) h
  case wheelRawChange l => exact event_touches (fun u => wheelRaw_touches u l) h
  case wheelQualification =>
    refine whenPowered_touches (fun u => ?_) h
    split
    · exact .ite (qualify_touches ..) (.refl _ _)
    · exact .refl _ _
  case generatorPeriodStart g =>
    cases g with
    | ftrig =>
      exact event_touches (ps := [.ftrig, .tracker, .lines]) (fun u => ((setGen_touches u .ftrig _).mono
        (by decide)).trans ((frameTrigger_touches _).mono (by decide))) h
    | iset => exact event_touches (fun u => setGen_touches u .iset _) h
  case generatorWidthEnd g => exact event_touches (fun u => setGen_touches u g _) h
  case identityReadComplete v =>
    exact event_touches (ps := downPieces) (fun u => .ite ((replay_touches u 0).mono (by decide))
      (attemptFails_touches u)) h
  case verifyReadComplete v => exact whenPowered_touches (fun u => verified_touches u v) h
  case stallExpiry => exact event_touches attemptFails_touches h
  case bankWriteComplete => exact whenPowered_touches bankWritten_touches h
  case recoveryExpiry => exact event_touches powerUp_touches h
  case drdyCapture =>
    refine whenPowered_touches (ps := [.linkMode, .bus, .drdy]) (fun u => .ite (drdyRunning_touches u) ?_) h
    rw [emptied_capture]
    exact (emptied_drdy_touches u).mono (by decide)
  case sampleBurstComplete b => exact whenPowered_touches (fun u => burstDone_touches u b) h
  case passThroughComplete v => exact whenPowered_touches (fun u => passDone_touches u v) h
  case windowExpiry => exact event_touches closeWindow_touches h
  case fstCapture => exact whenPowered_touches (fun u => taken_touches u _ (by decide) strobe_touches) h
  case fenCapture => exact whenPowered_touches (fun u => taken_touches u _ (by decide) endStrobe_touches) h
  case bandDeadlineExpiry n i =>
    refine event_touches (ps := [.bands, .corrections, .lines, .catalogue])
      (fun u => .trans ?_ (examine_touches _)) h
    simp [touches_iff]
  case measurementRound r o => exact event_touches (fun u => round_touches u r o) h
  case presentQualificationExpiry | rideThroughExpiry =>
    exact event_touches (ps := [.mode, .inputs, .gates, .lines, .charger, .iset])
      (fun u => ((inputBecomes_touches u _).mono (by decide)).trans ((chargeInput_touches _).mono (by decide))) h
  case batteryLowDebounceExpiry => exact event_touches enterFinishing_touches h
  case holdExpiry => exact event_touches (fun u => shutDown_touches u _) h
  case mrailPgRise => exact whenPowered_touches railUp_touches h
  case rampTimeout => exact event_touches (fun u => railGoesOff_touches u _) h
  case qualificationExpiry => exact event_touches qualified_touches h
  case fetch p n => exact fetch_touches h
  case busyRefusal p k f => exact event_touches (fun u => refuseBusy_touches u p f) h
  case unknownKind p k f => exact event_touches (fun u => unknownRequest_touches u p k f) h
  all_goals cases hc

/-- Every command touches what `Instr.touches` lists, and nothing else. -/
theorem exec_touches {c : Instr} {s t : State} (h : exec c s = .next t) : Touches c.touches s t := by
  cases hc : c.asRequest with
  | none => exact event_exec_touches hc h
  | some r =>
    obtain ⟨k, p, f⟩ := r
    obtain ⟨pg, hexec⟩ := exec_request hc
    rw [hexec] at h
    rw [Instr.touches_request hc]
    exact doRequest_touches (rule_touches pg k p) h

/-! ### Invariants that read few pieces -/

/-- No piece of `ps` is in `qs`. -/
def Piece.apart (ps qs : List Piece) : Bool := ps.all fun p => !qs.contains p

theorem Piece.not_mem_of_apart {ps qs : List Piece} (h : Piece.apart ps qs = true) {p : Piece} (hp : p ∈ ps) :
    p ∉ qs := by
  have := List.all_eq_true.mp h p hp
  simpa using this

/-- `Inv` reads the pieces of `ps` alone. -/
def Reads (ps : List Piece) (Inv : State → Prop) : Prop :=
  ∀ {s t : State}, (∀ p ∈ ps, Piece.Same s t p) → Inv s → Inv t

/-- An operation that touches nothing an invariant reads keeps the invariant. -/
theorem Reads.keep {ps qs : List Piece} {Inv : State → Prop} (hr : Reads ps Inv) {s t : State} (h : Touches qs s t)
    (hd : Piece.apart ps qs = true) (hs : Inv s) : Inv t :=
  hr (fun p hp => h.same p (Piece.not_mem_of_apart hd hp)) hs

theorem Reads.mono {ps qs : List Piece} {Inv : State → Prop} (hr : Reads ps Inv) (hsub : ∀ p ∈ ps, p ∈ qs) :
    Reads qs Inv :=
  fun h hs => hr (fun p hp => h p (hsub p hp)) hs

/-- Taking a command from the queue keeps an invariant that does not read the queue. -/
theorem Reads.keep_pending {ps : List Piece} {Inv : State → Prop} (hr : Reads ps Inv) {s : State} (rest : List Instr)
    (hd : Piece.apart ps [.pending] = true) (hs : Inv s) : Inv { s with pending := rest } :=
  hr.keep (qs := [.pending]) (by simp [touches_iff]) hd hs

/-- An invariant that every command keeps, every step keeps. -/
theorem step_keeps_of_exec {ps : List Piece} {Inv : State → Prop} (hr : Reads ps Inv)
    (hd : Piece.apart ps [.pending] = true) (hexec : ∀ (c : Instr) (s t : State), Inv s → exec c s = .next t → Inv t)
    {s t : State} (hs : Inv s) (h : step s = .next t) : Inv t := by
  unfold step at h
  split at h
  · cases h
    exact hs
  · exact hexec _ _ _ (hr.keep_pending _ hd hs) h

/-- A request keeps an invariant that does not read the slots when its own rule does. -/
theorem doRequest_keeps {ps : List Piece} {Inv : State → Prop} (hr : Reads ps Inv)
    (hd : Piece.apart ps [.slots] = true) {k : Kind} {act : Port → List Byte → State → State × Reply} {p : Port}
    {f : Frame} (hact : ∀ u, Inv u → Inv (act p f.body u).1) {s t : State} (hs : Inv s)
    (h : s.doRequest k act p f = .next t) : Inv t := by
  obtain rfl | rfl | ⟨-, -, st, rfl⟩ | ⟨-, rfl⟩ := doRequest_cases h
  · exact hs
  · exact hr.keep (refuseBusy_touches ..) hd hs
  · exact hr.keep (replied_touches ..) hd hs
  · exact hr.keep (settle_touches ..) hd (hact _ (hr.keep (take_touches ..) hd hs))

/-- An event keeps an invariant when its effect does, under the condition of the event. -/
theorem event_keeps {Inv : State → Prop} {cond : State → Bool} {f : State → State} {s t : State}
    (h : State.event cond f s = .next t) (hs : Inv s) (hf : s.store.vsys = true → cond s = true → Inv (f s)) :
    Inv t := by
  obtain rfl | ⟨hv, hc, rfl⟩ := event_cases h
  · exact hs
  · exact hf hv hc

theorem whenPowered_keeps {Inv : State → Prop} {f : State → State} {s t : State}
    (h : s.whenPowered f = .next t) (hs : Inv s) (hf : s.store.vsys = true → Inv (f s)) : Inv t := by
  obtain rfl | ⟨hv, rfl⟩ := whenPowered_cases h
  · exact hs
  · exact hf hv

end Sys2Proof.Machine

/-! # Every step keeps the Frame Tracker (R61 to R63)

FTRIG runs and a frame is current exactly out of IDLE; the commands that touch neither are settled by their footprint. -/

namespace Sys2Proof.Machine
namespace State

theorem framesOk_reads : Reads [.ftrig, .tracker, .bands] FramesOk := by
  intro s t h hs
  simp only [List.forall_mem_cons, Piece.Same] at h
  obtain ⟨hf, ⟨hst, hp, ho, hc⟩, hb, -⟩ := h
  simpa only [FramesOk, hf, hst, hp, ho, hc, hb] using hs

/-! ### The tracker's operations -/

theorem closeWindow_frames (s : State) : s.closeWindow.frames.state = s.frames.state
    ∧ s.closeWindow.frames.params = s.frames.params ∧ s.closeWindow.frames.opened = s.frames.opened
    ∧ s.closeWindow.frames.bands = s.frames.bands ∧ s.closeWindow.ftrig = s.ftrig
    ∧ (s.closeWindow.frames.cur.isSome ↔ s.frames.cur.isSome) := by
  unfold closeWindow
  cases hc : s.frames.cur with
  | none => simp [hc]
  | some c =>
    by_cases hw : c.window.isSome <;> by_cases hn : c.sn.isNone <;> simp [hw, hn, hc]

theorem closeWindow_framesOk {s : State} (h : s.FramesOk) : s.closeWindow.FramesOk := by
  obtain ⟨hst, hp, ho, hb, hf, hc⟩ := closeWindow_frames s
  simpa only [FramesOk, hst, hp, ho, hb, hf, hc] using h

/-- A frame trigger out of IDLE makes a frame current (R63). -/
theorem frameTrigger_framesOk {s : State} (hidle : s.frames.state ≠ .idle) (hrun : s.ftrig.running = true)
    (hstaged : s.ftrig.staged = none) (hperiod : s.ftrig.period = s.frames.params.period) :
    s.frameTrigger.FramesOk := by
  obtain ⟨hst, hp, -, -, hf, -⟩ := closeWindow_frames s
  simp [FramesOk, frameTrigger, hst, hp, hf, hidle, hrun, hstaged, hperiod]

theorem frameStart_framesOk (s : State) (p : FrameParams) : (s.frameStart p).FramesOk :=
  frameTrigger_framesOk (by simp) rfl rfl rfl

theorem frameStop_framesOk {s : State} (h : s.FramesOk) : s.frameStop.FramesOk := by
  unfold frameStop
  split
  · exact h
  · rename_i hidle
    have hrun : s.ftrig.running = true := h.1.mpr hidle
    simp [FramesOk, Generator.stop, hrun]

/-- While bands are pending only out of IDLE, an examination or a forcing leaves them so. -/
theorem formBand_framesOk {s : State} (b : Band) (x : Found) (h : s.FramesOk) : (s.formBand b x).FramesOk := by
  refine framesOk_reads.keep (deliver_touches _ _) rfl ?_
  obtain ⟨hrun, hcur, hbands, hstaged, hopen⟩ := h
  exact ⟨hrun, hcur, fun hi => by simp [hbands hi], hstaged, hopen⟩

theorem examineN_framesOk (n : Nat) {s : State} (h : s.FramesOk) : (s.examineN n).FramesOk := by
  induction n generalizing s with
  | zero => exact h
  | succ n ih =>
    unfold examineN
    split
    · exact h
    · split
      · exact ih (formBand_framesOk _ _ h)
      · exact h

theorem examine_framesOk {s : State} (h : s.FramesOk) : s.examine.FramesOk := examineN_framesOk _ h

theorem force_framesOk (k : Nat) {s : State} (h : s.FramesOk) : (s.force k).FramesOk := by
  induction k generalizing s with
  | zero => exact h
  | succ k ih =>
    refine ih ?_
    unfold forceOldest
    split
    · exact h
    · exact formBand_framesOk _ _ h

theorem force_frames_state (k : Nat) (s : State) : (s.force k).frames.state = s.frames.state :=
  ((force_touches k s).same .tracker (by decide)).1

theorem placeBands_framesOk {s : State} (t : Tick) (hidle : s.frames.state ≠ .idle) (h : s.FramesOk) :
    (s.placeBands t).FramesOk := by
  refine examine_framesOk ?_
  obtain ⟨hrun, hcur, -, hstaged, hopen⟩ :=
    force_framesOk (s.frames.bands.length + s.frames.params.bands - 64) h
  have hst := force_frames_state (s.frames.bands.length + s.frames.params.bands - 64) s
  exact ⟨hrun, hcur, fun hi => absurd (hst ▸ hi) hidle, hstaged, hopen⟩

theorem strobe_framesOk {s : State} (h : s.FramesOk) : s.strobe.FramesOk := by
  unfold strobe
  cases hc : s.frames.cur with
  | none => exact h
  | some c =>
    obtain ⟨hrun, hcur, hbands, hstaged, hopen⟩ := h
    have hidle : s.frames.state ≠ .idle := hcur.mp (by simp [hc])
    dsimp only
    split
    · refine placeBands_framesOk _ (by simp) ?_
      simp [FramesOk, hrun.mpr hidle, hstaged, hopen hidle]
    · exact ⟨hrun, hcur, hbands, hstaged, hopen⟩

theorem endStrobe_framesOk {s : State} (h : s.FramesOk) : s.endStrobe.FramesOk := by
  unfold endStrobe
  cases hc : s.frames.cur with
  | none => exact h
  | some c =>
    obtain ⟨hrun, hcur, hbands, hstaged, hopen⟩ := h
    have hidle : s.frames.state ≠ .idle := hcur.mp (by simp [hc])
    dsimp only
    split
    · split
      · exact ⟨hrun, by simp [hidle], hbands, hstaged, hopen⟩
      · exact ⟨hrun, hcur, hbands, hstaged, hopen⟩
    · exact ⟨hrun, hcur, hbands, hstaged, hopen⟩

/-- R80: the rail's going off has the effects of FRAME_STOP. -/
theorem railGoesOff_framesOk {s : State} (st : Option Status) (h : s.FramesOk) : (s.railGoesOff st).FramesOk := by
  have hcut : (State.frameStop { s with supply := { s.supply with rail := .off, ramp := none }
                                        charge := { s.charge with cls := 0 } }).FramesOk :=
    frameStop_framesOk h
  have heffects : s.railEffects.FramesOk := framesOk_reads.keep (abandon_touches _ .a) rfl hcut
  unfold railGoesOff
  split
  · exact h
  · split
    · exact framesOk_reads.keep (finish_touches ..) rfl heffects
    · exact heffects

theorem motionSoftReset_framesOk (s : State) : s.motionSoftReset.FramesOk := by
  simp [FramesOk, motionSoftReset, Generator.stopped, Frames.atReset]

theorem enterFinishing_framesOk {s : State} (h : s.FramesOk) : s.enterFinishing.FramesOk := by
  unfold enterFinishing
  dsimp only
  split
  · exact railGoesOff_framesOk _ h
  · exact h

theorem shutDown_framesOk {s : State} (cause : CutCause) (h : s.FramesOk) : (s.shutDown cause).FramesOk := by
  have hrail : ((s.seal cause).railGoesOff (some .wrongState)).FramesOk :=
    railGoesOff_framesOk _ (framesOk_reads.keep (seal_touches s cause) rfl h)
  have hstopped := framesOk_reads.keep (linkStop_touches _) rfl hrail
  exact hstopped

theorem judge_framesOk {s : State} (m : MeasTable) (first : Bool) (h : s.FramesOk) : (s.judge m first).FramesOk := by
  unfold judge
  split
  · have hdown := shutDown_framesOk .hardCut h
    unfold hardCut
    dsimp only
    split
    · exact hdown
    · exact hdown
  · split
    · unfold judgeNormal
      split
      · dsimp only
        split
        · exact enterFinishing_framesOk h
        · exact h
      · exact h
    · split <;> exact h
    · split <;> exact h

theorem round_framesOk {s : State} (r : RawMeas) (o : RoundOrder) (h : s.FramesOk) : (s.round r o).FramesOk := by
  have hworks (m : MeasTable) (first changed gf : Bool) (ws : List RoundWork) {u : State} (hu : u.FramesOk) :
      (ws.foldl (State.work m first changed gf) u).FramesOk := by
    induction ws generalizing u with
    | nil => exact hu
    | cons w ws ih =>
      refine ih ?_
      cases w with
      | supply => exact judge_framesOk m first hu
      | input =>
        have hinput : Touches [.charger, .iset, .lines] u (State.work m first changed gf u .input) :=
          .ite (chargeInput_touches u) (.refl _ _)
        exact framesOk_reads.keep hinput rfl hu
      | charge => exact framesOk_reads.keep (chargeAndGauge_touches u m gf) rfl hu
  exact hworks _ _ _ _ _ (framesOk_reads.keep (applyInput_touches _ _) rfl h)

theorem por_framesOk (s : State) (v : Nat) (l : Level) : (s.por v l).FramesOk := by
  simp [FramesOk, por, reset, Generator.stopped, Frames.atReset]

theorem softReset_framesOk (s : State) : s.softReset.FramesOk :=
  framesOk_reads.keep (chargeSoftReset_touches _) rfl (motionSoftReset_framesOk _)

theorem generatorPeriodStart_framesOk {s : State} (h : s.FramesOk) (hdue : s.ftrig.periodDue s.tick = true) :
    ((s.setGen .ftrig (s.ftrig.nextPeriod s.tick)).periodStarted .ftrig).FramesOk := by
  obtain ⟨hrun, -, -, hstaged, hopen⟩ := h
  have hrunning : s.ftrig.running = true := by
    simp only [Generator.periodDue, Bool.and_eq_true] at hdue
    exact hdue.1
  have hidle := hrun.mp hrunning
  refine frameTrigger_framesOk hidle ?_ rfl ?_
  · exact hrunning
  · simpa [setGen, Generator.nextPeriod, hstaged] using (hopen hidle).2

theorem burstDone_framesOk {s : State} (bytes : Vector Byte 12) (h : s.FramesOk) : (s.burstDone bytes).FramesOk := by
  have hsample (x : Sample) : (s.sample x).FramesOk := by
    have hexamined : (State.examine { s with motion :=
        (s.motion.absorb x s.link.settings.pImu s.wheel.band).1 }).FramesOk := examine_framesOk h
    rw [sample_eq]
    split
    · exact framesOk_reads.keep (episodeEnd_touches ..) rfl hexamined
    · exact framesOk_reads.keep (crashCheck_touches _) rfl hexamined
  unfold burstDone
  split
  · refine framesOk_reads.keep (serveBus_touches _ _) rfl ?_
    exact hsample _
  · exact h

theorem bandDeadline_framesOk {s : State} (n : FrameNo) (i : Nat) (h : s.FramesOk) :
    (State.examine { s with frames := { s.frames with
      bands := s.frames.bands.map (Band.pass n i s.tick) } }).FramesOk := by
  obtain ⟨hrun, hcur, hbands, hstaged, hopen⟩ := h
  exact examine_framesOk ⟨hrun, hcur, fun hi => by simp [hbands hi], hstaged, hopen⟩

theorem railOff_framesOk {s : State} (h : s.FramesOk) : s.railOff.FramesOk := by
  refine railGoesOff_framesOk _ ?_
  split
  · exact framesOk_reads.keep (seal_touches s _) rfl h
  · exact h

/-- The own rules that reach the Frame Tracker. -/
theorem rule_framesOk {s : State} (p : Port) (b : List Byte) (h : s.FramesOk) :
    (Machine.softReset p b s).1.FramesOk ∧ (Machine.frameStart p b s).1.FramesOk
    ∧ (Machine.frameStop p b s).1.FramesOk ∧ (Machine.railOff p b s).1.FramesOk := by
  refine ⟨?_, ?_, frameStop_framesOk h, ?_⟩
  · unfold Machine.softReset
    split
    · exact h
    · exact softReset_framesOk s
  · unfold Machine.frameStart
    split
    · exact h
    split
    · exact h
    · exact frameStart_framesOk ..
  · unfold Machine.railOff
    split
    · exact h
    split
    · exact h
    · exact railOff_framesOk h

end State

open State

theorem exec_keeps_frames (c : Instr) (s t : State) (hs : s.FramesOk) (h : exec c s = .next t) : t.FramesOk := by
  have hfoot := exec_touches h
  cases c <;> dsimp only [exec] at h
  case por v l => cases h; exact por_framesOk ..
  case softReset p f => exact doRequest_keeps framesOk_reads rfl (fun u hu => (rule_framesOk p f.body hu).1) hs h
  case frameStart p f => exact doRequest_keeps framesOk_reads rfl (fun u hu => (rule_framesOk p f.body hu).2.1) hs h
  case frameStop p f => exact doRequest_keeps framesOk_reads rfl (fun u hu => (rule_framesOk p f.body hu).2.2.1) hs h
  case railOff p f => exact doRequest_keeps framesOk_reads rfl (fun u hu => (rule_framesOk p f.body hu).2.2.2) hs h
  case generatorPeriodStart g =>
    cases g with
    | ftrig => exact event_keeps h hs fun _ => generatorPeriodStart_framesOk hs
    | iset => exact framesOk_reads.keep hfoot rfl hs
  case generatorWidthEnd g =>
    cases g with
    | ftrig => exact event_keeps h hs fun _ _ => hs
    | iset => exact framesOk_reads.keep hfoot rfl hs
  case sampleBurstComplete b => exact whenPowered_keeps h hs fun _ => burstDone_framesOk b hs
  case windowExpiry => exact event_keeps h hs fun _ _ => closeWindow_framesOk hs
  case fstCapture => exact whenPowered_keeps h hs fun _ => strobe_framesOk (s := (s.capture .fst s.tick).emptied .fst) hs
  case fenCapture => exact whenPowered_keeps h hs fun _ => endStrobe_framesOk (s := (s.capture .fen s.tick).emptied .fen) hs
  case bandDeadlineExpiry n i => exact event_keeps h hs fun _ _ => bandDeadline_framesOk n i hs
  case measurementRound r o => exact event_keeps h hs fun _ _ => round_framesOk r o hs
  case batteryLowDebounceExpiry => exact event_keeps h hs fun _ _ => enterFinishing_framesOk hs
  case holdExpiry => exact event_keeps h hs fun _ _ => shutDown_framesOk _ hs
  case rampTimeout => exact event_keeps h hs fun _ _ => railGoesOff_framesOk _ hs
  all_goals exact framesOk_reads.keep hfoot rfl hs

/-- Settles O57: only the commands of the Frame Tracker, of the rail, of a sample and of a reset touch what the
invariant reads, and each of them keeps it. -/
theorem stepKeepsFrames : Obligations.StepKeepsFrames :=
  fun _ _ => step_keeps_of_exec framesOk_reads rfl exec_keeps_frames

end Sys2Proof.Machine

/-! # Every step keeps the notice lines (R146, R199, R200)

`State.Touches` already carries the notice lines of both ports; PWRFAIL is a matter of the supply's own operations. -/

namespace Sys2Proof.Machine
namespace State

/-! ### What a round keeps -/

/-- A round keeps what the taking of the input and each piece of its work keep. -/
theorem round_keeps {Inv : State → Prop} {s : State} (r : RawMeas) (o : RoundOrder)
    (hinput : Inv (State.applyInput { s with supply := { s.supply with table := some (RawMeas.table r s.tick) } }
      (RawMeas.table r s.tick)))
    (hwork : ∀ (first changed : Bool) (w : RoundWork) (u : State), Inv u →
      Inv (State.work (RawMeas.table r s.tick) first changed o.gaugeFirst u w)) : Inv (s.round r o) := by
  have hworks (first changed : Bool) (ws : List RoundWork) (u : State) (hu : Inv u) :
      Inv (ws.foldl (State.work (RawMeas.table r s.tick) first changed o.gaugeFirst) u) := by
    induction ws generalizing u with
    | nil => exact hu
    | cons w ws ih => exact ih _ (hwork first changed w u hu)
  exact hworks _ _ _ _ hinput

/-- The judgement of a round keeps what the changes of the supply state and of the debounce keep. -/
theorem judge_keeps {Inv : State → Prop} {s : State} {m : MeasTable} {first : Bool} (hs : Inv s)
    (hcut : s.supply.state ≠ .shutdown → s.supply.input = .absent → Inv s.hardCut)
    (hlow : s.supply.state = .normal → s.supply.input = .absent → Inv s.enterFinishing)
    (htimer : ∀ t, s.supply.state = .normal → (t.isSome → s.supply.input = .absent) →
      Inv { s with supply := { s.supply with debounce := t } })
    (hnormal : s.supply.state ≠ .normal → Inv s.supplyNormal) : Inv (s.judge m first) := by
  unfold judge
  split
  case isTrue h => exact hcut h.1 h.2.1
  · split
    case h_1 hst =>
      unfold judgeNormal
      split
      case isTrue h =>
        dsimp only
        split
        · exact hlow hst h.1
        · exact htimer _ hst fun _ => h.1
      · exact htimer none hst fun h => absurd h (by simp)
    all_goals
      split
      · exact hnormal (by simp_all)
      · exact hs

/-- The taking of a round's input keeps what the change of the input state and the input timers keep. -/
theorem applyInput_keeps {Inv : State → Prop} {s : State} {m : MeasTable}
    (hdecide : s.supply.decided = false → Inv { s with supply := { s.supply with decided := true } })
    (hfirst : s.supply.decided = false →
      Inv (State.inputBecomes { s with supply := { s.supply with decided := true } } .present))
    (habsent : s.supply.input = .present → Inv (s.inputBecomes .absent))
    (hpresent : ∀ t, s.supply.input = .absent → Inv { s with supply := { s.supply with present := t } })
    (hride : ∀ t, s.supply.input = .present → Inv { s with supply := { s.supply with ride := t } }) :
    Inv (s.applyInput m) := by
  unfold applyInput
  split
  case isTrue hd =>
    have hd' : s.supply.decided = false := by simpa using hd
    unfold decideInput
    dsimp only
    split
    · exact hfirst hd'
    · exact hdecide hd'
  · split
    case h_1 hin => exact hpresent _ hin
    case h_2 hin =>
      unfold roundPresent
      split
      · dsimp only
        split
        · exact habsent hin
        · exact hride _ hin
      · exact hride _ hin

/-! ### PWRFAIL -/

/-- R146: PWRFAIL is high in FINISHING alone. -/
@[reducible] def PwrfailOk (s : State) : Prop := s.supply.pwrfail = .high ↔ s.supply.state = .finishing

theorem pwrfailOk_reads : Reads [.mode] PwrfailOk := by
  intro s t h hs
  simp only [List.forall_mem_cons, Piece.Same] at h
  obtain ⟨⟨hst, hp⟩, -⟩ := h
  simpa only [PwrfailOk, hst, hp] using hs

theorem supplyNormal_pwrfailOk (s : State) : s.supplyNormal.PwrfailOk := by
  simp [PwrfailOk, supplyNormal]

theorem enterFinishing_pwrfailOk (s : State) : s.enterFinishing.PwrfailOk := by
  unfold enterFinishing
  dsimp only
  split
  · exact pwrfailOk_reads.keep (railGoesOff_touches ..) rfl (by simp [PwrfailOk])
  · simp [PwrfailOk]

theorem shutDown_pwrfailOk (s : State) (cause : CutCause) : (s.shutDown cause).PwrfailOk := by
  simp [PwrfailOk, shutDown]

theorem hardCut_pwrfailOk (s : State) : s.hardCut.PwrfailOk := by
  have hdown := shutDown_pwrfailOk s .hardCut
  unfold hardCut
  dsimp only
  split
  · exact pwrfailOk_reads.keep (raise_touches ..) rfl hdown
  · exact hdown

theorem inputBecomes_pwrfailOk {s : State} (x : InputState) (h : s.PwrfailOk) : (s.inputBecomes x).PwrfailOk := by
  cases x with
  | absent => exact h
  | present =>
    unfold inputBecomes
    dsimp only
    split
    · exact h
    · exact supplyNormal_pwrfailOk _

theorem round_pwrfailOk {s : State} (r : RawMeas) (o : RoundOrder) (h : s.PwrfailOk) : (s.round r o).PwrfailOk := by
  refine round_keeps r o ?_ fun first changed w u hu => ?_
  · exact applyInput_keeps (fun _ => h) (fun _ => inputBecomes_pwrfailOk _ h) (fun _ => inputBecomes_pwrfailOk _ h)
      (fun _ _ => h) fun _ _ => h
  · cases w with
    | supply =>
      exact judge_keeps hu (fun _ _ => hardCut_pwrfailOk u) (fun _ _ => enterFinishing_pwrfailOk u) (fun _ _ _ => hu)
        fun _ => supplyNormal_pwrfailOk u
    | input =>
      have hinput : Touches [.charger, .iset, .lines] u
          (State.work (RawMeas.table r s.tick) first changed o.gaugeFirst u .input) :=
        .ite (chargeInput_touches u) (.refl _ _)
      exact pwrfailOk_reads.keep hinput rfl hu
    | charge => exact pwrfailOk_reads.keep (chargeAndGauge_touches ..) rfl hu

theorem exec_keeps_pwrfail (c : Instr) (s t : State) (hs : s.PwrfailOk) (h : exec c s = .next t) : t.PwrfailOk := by
  have hfoot := exec_touches h
  cases c <;> dsimp only [exec] at h
  case por v l =>
    cases h
    simp [PwrfailOk, por, reset, Supply.atPor]
  case measurementRound r o => exact event_keeps h hs fun _ _ => round_pwrfailOk r o hs
  case presentQualificationExpiry | rideThroughExpiry =>
    exact event_keeps h hs fun _ _ =>
      pwrfailOk_reads.keep (chargeInput_touches _) rfl (inputBecomes_pwrfailOk _ hs)
  case batteryLowDebounceExpiry => exact event_keeps h hs fun _ _ => enterFinishing_pwrfailOk s
  case holdExpiry => exact event_keeps h hs fun _ _ => shutDown_pwrfailOk s _
  case generatorPeriodStart g => cases g <;> exact pwrfailOk_reads.keep hfoot rfl hs
  case generatorWidthEnd g => cases g <;> exact pwrfailOk_reads.keep hfoot rfl hs
  all_goals exact pwrfailOk_reads.keep hfoot rfl hs

theorem linesOk_reads : Reads [.lines, .mode] LinesOk := by
  intro s t h hs
  simp only [List.forall_mem_cons, Piece.Same, PortState.SameLines] at h
  obtain ⟨⟨⟨hna, hma, haa⟩, hnb, hmb, hab⟩, ⟨hst, hp⟩, -⟩ := h
  simpa only [LinesOk, PortState.LinesOk, hna, hma, haa, hnb, hmb, hab, hst, hp] using hs

end State

open State

theorem exec_keeps_lines (c : Instr) (s t : State) (hs : s.LinesOk) (h : exec c s = .next t) : t.LinesOk := by
  obtain ⟨ha, hb, hp⟩ := hs
  obtain ⟨ha', hb'⟩ := (exec_touches h).notices ⟨ha, hb⟩
  exact ⟨ha', hb', exec_keeps_pwrfail c s t hp h⟩

/-- Settles O51: what changes a notice line keeps the lines right (`State.Touches`), and PWRFAIL changes only with the
supply state. -/
theorem stepKeepsLines : Obligations.StepKeepsLines :=
  fun _ _ => step_keeps_of_exec linesOk_reads rfl exec_keeps_lines

end Sys2Proof.Machine

/-! # Every step keeps target, ceiling, width and ISET as the charge state and zone allow (R166, R177 to R180) -/

namespace Sys2Proof.Machine

/-! ### What a change of charge state leaves -/

namespace State

@[simp] theorem toCharge_supply (s : State) (new : ChargeState) : (s.toCharge new).supply = s.supply := by
  unfold toCharge
  split
  · rfl
  · dsimp only
    split <;> rfl

@[simp] theorem toCharge_gauge (s : State) (new : ChargeState) : (s.toCharge new).gauge = s.gauge := by
  unfold toCharge
  split
  · rfl
  · dsimp only
    split <;> rfl

theorem toCharge_charge (s : State) (new : ChargeState) :
    (s.toCharge new).charge = if s.charge.state = new then s.charge else s.charge.enter s.tick new := by
  unfold toCharge
  split
  · rfl
  · dsimp only
    split <;> rfl

theorem toCharge_iset (s : State) (new : ChargeState) :
    (s.toCharge new).iset = if s.charge.state = new ∨ new.charging = true then s.iset else s.iset.stop := by
  unfold toCharge
  by_cases h : s.charge.state = new
  · simp [h]
  · simp only [h, if_false, false_or]
    split <;> rfl

@[simp] theorem toCharge_state (s : State) (new : ChargeState) : (s.toCharge new).charge.state = new := by
  rw [toCharge_charge]
  split
  case isTrue h => exact h
  case isFalse => rfl

@[simp] theorem toCharge_zone (s : State) (new : ChargeState) : (s.toCharge new).charge.zone = s.charge.zone := by
  rw [toCharge_charge]
  split <;> rfl

@[simp] theorem toCharge_settings (s : State) (new : ChargeState) :
    (s.toCharge new).charge.settings = s.charge.settings := by
  rw [toCharge_charge]
  split <;> rfl

theorem toCharge_resume (s : State) {new : ChargeState} (h : new ≠ .off) :
    (s.toCharge new).charge.resume = s.charge.resume := by
  rw [toCharge_charge]
  split
  · rfl
  · simp [Charge.enter, h]

end State

/-- What both branches have, the choice has. -/
theorem ite_keeps {α : Type} {P : α → Prop} {c : Prop} [Decidable c] {x y : α} (hx : P x) (hy : P y) :
    P (if c then x else y) := by
  split <;> assumption

theorem Generator.stop_running (g : Generator) : g.stop.running = false := by
  unfold Generator.stop
  by_cases h : g.running = true <;> simp [h]

theorem Generator.update_running (g : Generator) (p w : Nat) : (g.update p w).running = g.running := by
  unfold Generator.update
  split <;> rfl

/-! ### The one change of charge state in a round

An invariant that the changes a round can make keep, the round's transition keeps: the fault, the longer qualification,
the pause, the resumption, and the progress of R171 and R172. It may fail where CV has counted to its end, because the
round then leaves CV. -/

theorem State.changeCharge_keeps {Inv : State → Prop} {s : State} {m : MeasTable}
    (hstay : (s.charge.state = .cv → s.charge.term < 64) → Inv s)
    (hfault : ∀ c, s.charge.state ≠ .off → s.charge.state ≠ .qualify → s.charge.state ≠ .fault →
      Inv (s.faultCharge m c))
    (hqual : ∀ q, s.charge.state = .qualify → Inv { s with charge := { s.charge with qual := some q } })
    (hpause : ∀ r, r.charging = true → s.charge.state ≠ .off → s.charge.state ≠ .qualify → s.charge.state ≠ .paused →
      Inv (s.pauseCharge r))
    (hresume : ∀ r, s.charge.state = .paused → s.charge.resume = some r →
      Inv (({ s with charge := { s.charge with resume := none } } : State).toCharge r))
    (hto : ∀ new, new = .cc ∨ new = .cv → s.charge.state = .precharge ∨ s.charge.state = .cc ∨ s.charge.state = .done →
      Inv (s.toCharge new))
    (hdone : s.charge.state = .cv → Inv (({ s with gauge := s.gauge.setFull } : State).toCharge .done)) :
    Inv (s.changeCharge m) := by
  have htherm (c : FaultCause) : Inv (s.thermFault m c) := by
    unfold thermFault
    split
    case h_6 h => exact hqual _ h
    case h_7 h | h_8 h => exact hstay (by simp [h])
    all_goals rename_i h; exact hfault _ (by simp [h]) (by simp [h]) (by simp [h])
  have hprogress : Inv (s.progress m) := by
    unfold progress
    split
    case h_1 h => exact ite_keeps (hto _ (.inl rfl) (.inl h)) (hstay (by simp [h]))
    case h_2 h => exact ite_keeps (hto _ (.inr rfl) (.inr (.inl h))) (hstay (by simp [h]))
    case h_3 h =>
      split
      · exact hdone h
      · exact hstay fun _ => by omega
    case h_4 h =>
      split
      · exact ite_keeps (hpause _ rfl (by simp [h]) (by simp [h]) (by simp [h]))
          (hto _ (.inl rfl) (.inr (.inr h)))
      · exact hstay (by simp [h])
    case h_5 h => exact hstay fun hcv => absurd hcv (by assumption)
  have hcharging (h : s.charge.state.charging = true) :
      s.charge.state ≠ .off ∧ s.charge.state ≠ .qualify ∧ s.charge.state ≠ .fault ∧ s.charge.state ≠ .paused := by
    refine ⟨?_, ?_, ?_, ?_⟩ <;> intro hst <;> simp [hst, ChargeState.charging] at h
  have hfaulty (c : FaultCause) (h : s.charge.state.charging = true) : Inv (s.faultCharge m c) := by
    obtain ⟨hoff, hq, hf, -⟩ := hcharging h
    exact hfault c hoff hq hf
  unfold changeCharge
  dsimp only
  split
  · exact htherm _
  · exact htherm _
  · split
    case isTrue h => exact hfaulty _ (Bool.and_eq_true_iff.mp h).1
    split
    case isTrue h => exact hfaulty _ (by simp [h.1, ChargeState.charging])
    split
    case isTrue h => exact hfaulty _ (Bool.and_eq_true_iff.mp h).1
    split
    case isTrue h =>
      have hch := (Bool.and_eq_true_iff.mp h).1
      obtain ⟨hoff, hq, -, hp⟩ := hcharging hch
      exact hpause _ hch hoff hq hp
    split
    case isTrue h =>
      have hst : Inv s := hstay (by simp [h])
      refine ite_keeps hst ?_
      unfold resumeCharge
      split
      case h_1 r hr => exact hresume r h hr
      case h_2 => exact hst
    · exact hprogress

/-! ### The round after its change of charge state -/

theorem State.driveIset_charge (s : State) :
    s.driveIset.charge = { s.charge with isetWidth := s.charge.target / 12 } := by
  unfold driveIset
  split
  · rfl
  case isFalse h =>
    have h0 : s.charge.target = 0 := by omega
    simp [h0]

@[simp] theorem State.driveIset_supply (s : State) : s.driveIset.supply = s.supply := by
  unfold driveIset
  split <;> rfl

@[simp] theorem State.driveIset_gauge (s : State) : s.driveIset.gauge = s.gauge := by
  unfold driveIset
  split <;> rfl

/-- R173: the safety count after a round's work. -/
def Charge.nextSafety (c : Charge) : Nat :=
  if c.state.charging && decide (0 < c.target) then min 58982400 (c.safety + 1) else c.safety

theorem Charge.countSafety_eq (c : Charge) : c.countSafety = { c with safety := c.nextSafety } := by
  unfold Charge.countSafety Charge.nextSafety
  split <;> rfl

@[simp] theorem Charge.withTarget_state (c : Charge) (m : MeasTable) : (c.withTarget m).state = c.state := rfl
@[simp] theorem Charge.withTarget_qual (c : Charge) (m : MeasTable) : (c.withTarget m).qual = c.qual := rfl
@[simp] theorem Charge.withTarget_term (c : Charge) (m : MeasTable) : (c.withTarget m).term = c.term := rfl
@[simp] theorem Charge.withTarget_safety (c : Charge) (m : MeasTable) : (c.withTarget m).safety = c.safety := rfl

/-- The state of a round between its change of charge state and its target. -/
def State.changedInRound (s : State) (m : MeasTable) : State :=
  ({ s with charge := s.charge.thermal m.tbat } : State).transition m

/-- R169, R176 to R180: what a round's charge work leaves, in the state its change of charge state has left. -/
theorem State.chargeRound_charge (s : State) (m : MeasTable) :
    (s.chargeRound m).charge = { (s.changedInRound m).charge.withTarget m with
      isetWidth := ((s.changedInRound m).charge.withTarget m).target / 12
      safety := ((s.changedInRound m).charge.withTarget m).nextSafety } := by
  simp only [chargeRound, Charge.countSafety_eq, driveIset_charge]
  rfl

@[simp] theorem State.chargeRound_supply (s : State) (m : MeasTable) :
    (s.chargeRound m).supply = (s.changedInRound m).supply := by
  simp [chargeRound, changedInRound]

@[simp] theorem State.chargeRound_gauge (s : State) (m : MeasTable) :
    (s.chargeRound m).gauge = (s.changedInRound m).gauge := by
  simp [chargeRound, changedInRound]

end Sys2Proof.Machine

namespace Sys2Proof.Machine
namespace State

/-- R166, R170, R177, R178, R180: what `ChargeOk` says apart from the zone's caps and from the resume state that PAUSED
keeps; it holds between the changes of a round as well. -/
@[reducible] def ChargeHeld (s : State) : Prop :=
  (s.charge.state.charging = false →
    s.charge.target = 0 ∧ s.charge.ceiling = 0 ∧ s.charge.trim = 0 ∧ s.charge.cv = 0)
  ∧ (-3000 ≤ s.charge.trim ∧ s.charge.trim ≤ 0) ∧ (-3000 ≤ s.charge.cv ∧ s.charge.cv ≤ 0)
  ∧ (s.iset.running = true ↔ 0 < s.charge.target) ∧ s.charge.isetWidth = s.charge.target / 12
  ∧ (s.charge.qual.isSome ↔ s.charge.state = .qualify) ∧ (∀ r ∈ s.charge.resume, r.charging = true)

/-- R170: PAUSED keeps a resume state. -/
@[reducible] def PausedOk (s : State) : Prop := s.charge.state = .paused → s.charge.resume.isSome

/-- R179: target and ceiling are within the zone's cap. -/
@[reducible] def CapsOk (s : State) : Prop :=
  s.charge.target ≤ zoneCap s.charge.settings.iCc s.charge.zone
  ∧ s.charge.ceiling ≤ zoneCap s.charge.settings.iCc s.charge.zone

theorem chargeOk_iff (s : State) : s.ChargeOk ↔ s.ChargeHeld ∧ s.PausedOk ∧ s.CapsOk := by
  simp only [ChargeOk, ChargeHeld, PausedOk, CapsOk]
  tauto

theorem chargeOk_reads : Reads [.charger, .chargeSettings, .iset] ChargeOk := by
  intro s t h hs
  simp only [List.forall_mem_cons, Piece.Same] at h
  obtain ⟨⟨hz, hst, hres, hq, -, -, htrim, hcv, hceil, ht, hw⟩, hset, hi, -⟩ := h
  simpa only [ChargeOk, hz, hst, hres, hq, htrim, hcv, hceil, ht, hw, hset, hi] using hs

/-! ### A change of charge state -/

theorem toCharge_held {s : State} (new : ChargeState) (h : s.ChargeHeld) : (s.toCharge new).ChargeHeld := by
  obtain ⟨hquiet, htrim, hcv, hrun, hw, hq, hres⟩ := h
  by_cases hsame : s.charge.state = new
  · subst hsame
    rw [toCharge_same]
    exact ⟨hquiet, htrim, hcv, hrun, hw, hq, hres⟩
  have hqual : (s.charge.enter s.tick new).qual.isSome ↔ new = .qualify := by
    by_cases hn : new = .qualify
    · simp [Charge.enter, hn]
    · by_cases ho : s.charge.state = .qualify
      · simp [Charge.enter, hn, ho]
      · simpa [Charge.enter, hn, ho] using hq
  have hresume : ∀ r ∈ (s.charge.enter s.tick new).resume, r.charging = true := by
    by_cases hn : new = .off <;> simp [Charge.enter, hn]
    exact fun r hr => hres r hr
  simp only [ChargeHeld, toCharge_charge, toCharge_iset, hsame, false_or]
  refine ⟨?_, ?_, ?_, ?_, ?_, hqual, hresume⟩
  · intro hn
    have hn' : new.charging = false := hn
    simp [Charge.enter, hn']
  · exact ite_keeps (P := fun x : Int => -3000 ≤ x ∧ x ≤ 0) (by omega) htrim
  · exact ite_keeps (P := fun x : Int => -3000 ≤ x ∧ x ≤ 0) (by omega) hcv
  · cases hn : new.charging with
    | true => simpa [Charge.enter, hn] using hrun
    | false => simp [Charge.enter, hn, Generator.stop_running]
  · cases hn : new.charging with
    | true => simpa [Charge.enter, hn] using hw
    | false => simp [Charge.enter, hn]

theorem toCharge_pausedOk {s : State} {new : ChargeState} (h : new = .paused → s.charge.resume.isSome) :
    (s.toCharge new).PausedOk := by
  intro hst
  rw [toCharge_state] at hst
  rw [toCharge_resume s (by simp [hst])]
  exact h hst

theorem toCharge_capsOk {s : State} (new : ChargeState) (h : s.CapsOk) : (s.toCharge new).CapsOk := by
  obtain ⟨ht, hc⟩ := h
  by_cases hsame : s.charge.state = new
  · subst hsame
    rw [toCharge_same]
    exact ⟨ht, hc⟩
  cases hn : new.charging with
  | false => simp [CapsOk, toCharge_charge, if_neg hsame, Charge.enter, hn]
  | true => simpa [CapsOk, toCharge_charge, if_neg hsame, Charge.enter, hn] using And.intro ht hc

theorem toCharge_chargeOk {s : State} {new : ChargeState} (hn : new ≠ .paused) (h : s.ChargeOk) :
    (s.toCharge new).ChargeOk := by
  obtain ⟨hheld, -, hcaps⟩ := (chargeOk_iff s).mp h
  exact (chargeOk_iff _).mpr ⟨toCharge_held new hheld, toCharge_pausedOk fun h => absurd h hn, toCharge_capsOk new hcaps⟩

theorem withResume_held {s : State} (r : Option ChargeState) (hr : ∀ x ∈ r, x.charging = true) (h : s.ChargeHeld) :
    ({ s with charge := { s.charge with resume := r } } : State).ChargeHeld := by
  obtain ⟨hquiet, htrim, hcv, hrun, hw, hq, -⟩ := h
  exact ⟨hquiet, htrim, hcv, hrun, hw, hq, hr⟩

theorem pauseCharge_held {s : State} {r : ChargeState} (hr : r.charging = true) (h : s.ChargeHeld) :
    (s.pauseCharge r).ChargeHeld :=
  toCharge_held _ (withResume_held (some r) (by simpa using hr) h)

theorem pauseCharge_pausedOk (s : State) (r : ChargeState) : (s.pauseCharge r).PausedOk :=
  toCharge_pausedOk fun _ => rfl

theorem pauseCharge_chargeOk {s : State} {r : ChargeState} (hr : r.charging = true) (h : s.ChargeOk) :
    (s.pauseCharge r).ChargeOk := by
  obtain ⟨hheld, -, hcaps⟩ := (chargeOk_iff s).mp h
  exact (chargeOk_iff _).mpr ⟨pauseCharge_held hr hheld, pauseCharge_pausedOk s r, toCharge_capsOk _ hcaps⟩

/-! ### The operations between rounds -/

theorem chargeInput_chargeOk {s : State} (h : s.ChargeOk) : s.chargeInput.ChargeOk := by
  unfold chargeInput
  split
  · exact toCharge_chargeOk (by decide) h
  · exact ite_keeps (toCharge_chargeOk (by decide) h) h

theorem qualified_chargeOk {s : State} (h : s.ChargeOk) : s.qualified.ChargeOk := by
  unfold qualified
  dsimp only
  have hnext (next : ChargeState) (hr : next.charging = true) :
      (if s.charge.zone.pauses = true then s.pauseCharge next else s.toCharge next).ChargeOk := by
    refine ite_keeps (pauseCharge_chargeOk hr h) (toCharge_chargeOk ?_ h)
    rintro rfl
    exact absurd hr (by decide)
  refine hnext _ ?_
  split
  · split <;> rfl
  · rfl

theorem driveIset_held {s : State}
    (hquiet : s.charge.state.charging = false →
      s.charge.target = 0 ∧ s.charge.ceiling = 0 ∧ s.charge.trim = 0 ∧ s.charge.cv = 0)
    (htrim : -3000 ≤ s.charge.trim ∧ s.charge.trim ≤ 0) (hcv : -3000 ≤ s.charge.cv ∧ s.charge.cv ≤ 0)
    (hq : s.charge.qual.isSome ↔ s.charge.state = .qualify) (hres : ∀ r ∈ s.charge.resume, r.charging = true) :
    s.driveIset.ChargeHeld := by
  unfold driveIset
  split
  case isTrue ht =>
    refine ⟨hquiet, htrim, hcv, iff_of_true ?_ ht, rfl, hq, hres⟩
    dsimp only
    split
    case isTrue hrun => rw [Generator.update_running, hrun]
    case isFalse => rfl
  case isFalse ht =>
    refine ⟨hquiet, htrim, hcv, iff_of_false ?_ ht, ?_, hq, hres⟩
    · simp [Generator.stop_running]
    · have ht0 : s.charge.target = 0 := by omega
      simp [ht0]

theorem chargeSettings_chargeOk {s : State} (x : ChargeSettings) (h : s.ChargeOk) : (s.chargeSettings x).ChargeOk := by
  obtain ⟨⟨hquiet, htrim, hcv, hrun, hw, hq, hres⟩, hp, ht, hceil⟩ := (chargeOk_iff s).mp h
  have hcap (c : Charge) : c.targetCap ≤ zoneCap c.settings.iCc c.zone := by
    unfold Charge.targetCap
    dsimp only
    split <;> omega
  have hmin := Nat.min_le_right s.charge.ceiling (zoneCap x.iCc s.charge.zone)
  have hzero (hn : s.charge.state.charging = false) : min s.charge.ceiling (zoneCap x.iCc s.charge.zone) = 0 := by
    simp [(hquiet hn).2.1]
  unfold chargeSettings
  dsimp only
  split
  case isTrue hlow =>
    refine (chargeOk_iff _).mpr ⟨driveIset_held ?_ htrim hcv hq hres, ?_, ?_⟩
    · intro hn
      obtain ⟨htn, -, htr, hcn⟩ := hquiet hn
      exact ⟨by simp [htn] at hlow, hzero hn, htr, hcn⟩
    · unfold driveIset
      split <;> exact hp
    · unfold driveIset
      split <;> exact ⟨hcap _, hmin⟩
  case isFalse hlow =>
    refine (chargeOk_iff _).mpr ⟨⟨fun hn => ?_, htrim, hcv, hrun, hw, hq, hres⟩, hp, ?_, hmin⟩
    · obtain ⟨htn, -, htr, hcn⟩ := hquiet hn
      exact ⟨htn, hzero hn, htr, hcn⟩
    · exact (Nat.le_of_not_lt hlow).trans (hcap _)

theorem enableCharge_chargeOk {s : State} (on : Bool) (h : s.ChargeOk) : (s.enableCharge on).ChargeOk := by
  have hset : ({ s with charge := { s.charge with enable := on } } : State).ChargeOk := h
  unfold enableCharge
  dsimp only
  split
  · exact ite_keeps (toCharge_chargeOk (by decide) hset) hset
  · exact ite_keeps hset (toCharge_chargeOk (by decide) hset)

theorem chargeSoftReset_chargeOk (s : State) : s.chargeSoftReset.ChargeOk := by
  unfold chargeSoftReset
  dsimp only
  refine chargeInput_chargeOk ?_
  simp [ChargeOk, Generator.stopped]

/-! ### The round -/

theorem changeCharge_held {s : State} (m : MeasTable) (h : s.ChargeHeld) (hp : s.PausedOk) :
    (s.changeCharge m).ChargeHeld ∧ (s.changeCharge m).PausedOk := by
  refine changeCharge_keeps (Inv := fun u => u.ChargeHeld ∧ u.PausedOk) (fun _ => ⟨h, hp⟩) ?_ ?_ ?_ ?_ ?_ ?_
  · exact fun c _ _ _ => ⟨toCharge_held _ h, toCharge_pausedOk (by simp)⟩
  · intro q hst
    obtain ⟨hquiet, htrim, hcv, hrun, hw, -, hres⟩ := h
    exact ⟨⟨hquiet, htrim, hcv, hrun, hw, by simp [hst], hres⟩, hp⟩
  · exact fun r hr _ _ _ => ⟨pauseCharge_held hr h, pauseCharge_pausedOk s r⟩
  · intro r _ hr
    refine ⟨toCharge_held _ (withResume_held none (by simp) h), toCharge_pausedOk ?_⟩
    rintro rfl
    obtain ⟨-, -, -, -, -, -, hres⟩ := h
    exact absurd (hres _ hr) (by decide)
  · rintro new (rfl | rfl) - <;> exact ⟨toCharge_held _ h, toCharge_pausedOk (by simp)⟩
  · exact fun _ => ⟨toCharge_held _ h, toCharge_pausedOk (by simp)⟩

theorem counted_held {s : State} (i : Int) (h : s.ChargeHeld) (hp : s.PausedOk) :
    ({ s with charge := s.charge.counted i } : State).ChargeHeld
    ∧ ({ s with charge := s.charge.counted i } : State).PausedOk := by
  unfold Charge.counted
  split <;> exact ⟨h, hp⟩

theorem thermal_held {s : State} (c : Nat) (h : s.ChargeHeld) (hp : s.PausedOk) :
    ({ s with charge := s.charge.thermal c } : State).ChargeHeld
    ∧ ({ s with charge := s.charge.thermal c } : State).PausedOk := by
  unfold Charge.thermal
  split <;> exact ⟨h, hp⟩

theorem countSafety_chargeOk {s : State} (h : s.ChargeOk) :
    ({ s with charge := s.charge.countSafety } : State).ChargeOk := by
  unfold Charge.countSafety
  split <;> exact h

end State

theorem Charge.nextTrim_range {c : Charge} (m : MeasTable) (h : -3000 ≤ c.trim ∧ c.trim ≤ 0) :
    -3000 ≤ c.nextTrim m ∧ c.nextTrim m ≤ 0 := by
  unfold Charge.nextTrim
  split
  · exact h
  split
  · omega
  split <;> omega

theorem Charge.nextCv_range {c : Charge} (m : MeasTable) (h : -3000 ≤ c.cv ∧ c.cv ≤ 0) :
    -3000 ≤ c.nextCv m ∧ c.nextCv m ≤ 0 := by
  unfold Charge.nextCv
  split
  · exact h
  split
  · omega
  split <;> omega

theorem Charge.newCeiling_le {c : Charge} (h : c.trim ≤ 0) : c.newCeiling ≤ zoneCap c.settings.iCc c.zone := by
  unfold Charge.newCeiling
  split <;> omega

theorem Charge.newTarget_le {c : Charge} (htrim : c.trim ≤ 0) (hcv : c.cv ≤ 0)
    (hceil : c.ceiling ≤ zoneCap c.settings.iCc c.zone) : c.newTarget ≤ zoneCap c.settings.iCc c.zone := by
  unfold Charge.newTarget
  split <;> omega

namespace State

theorem withTarget_driveIset_chargeOk {s : State} (m : MeasTable) (h : s.ChargeHeld) (hp : s.PausedOk) :
    (driveIset { s with charge := s.charge.withTarget m }).ChargeOk := by
  obtain ⟨hquiet, htrim, hcv, -, -, hq, hres⟩ := h
  have htrim' := Charge.nextTrim_range (c := s.charge.withBudget m) m htrim
  have hcv' := Charge.nextCv_range (c := { s.charge.withBudget m with trim := (s.charge.withBudget m).nextTrim m }) m hcv
  have hceil : (s.charge.withTarget m).ceiling
      ≤ zoneCap (s.charge.withTarget m).settings.iCc (s.charge.withTarget m).zone :=
    Charge.newCeiling_le (c := { s.charge.withBudget m with
      trim := (s.charge.withBudget m).nextTrim m, cv := (s.charge.withBudget m).nextCv m }) htrim'.2
  have htarget : (s.charge.withTarget m).target
      ≤ zoneCap (s.charge.withTarget m).settings.iCc (s.charge.withTarget m).zone :=
    Charge.newTarget_le (c := { s.charge.withTarget m with target := s.charge.target }) htrim'.2 hcv'.2 hceil
  refine (chargeOk_iff _).mpr ⟨driveIset_held ?_ htrim' hcv' hq hres, ?_, ?_⟩
  · intro hn
    have hn' : s.charge.state.charging = false := hn
    obtain ⟨-, -, htz, hcz⟩ := hquiet hn'
    have hst : s.charge.state ≠ .cv := by
      rintro hst
      simp [hst, ChargeState.charging] at hn'
    refine ⟨?_, ?_, ?_, ?_⟩
    · simp only [Charge.withTarget, Charge.withBudget, Charge.newTarget]
      split <;> simp_all [ChargeState.charging]
    · simp [Charge.withTarget, Charge.withBudget, Charge.newCeiling, hn']
    · simp [Charge.withTarget, Charge.withBudget, Charge.nextTrim, hn', htz]
    · simp [Charge.withTarget, Charge.withBudget, Charge.nextCv, hst, hcz]
  · unfold driveIset
    split <;> exact hp
  · unfold driveIset
    split <;> exact ⟨htarget, hceil⟩

theorem chargeRound_chargeOk {s : State} (m : MeasTable) (h : s.ChargeOk) : (s.chargeRound m).ChargeOk := by
  obtain ⟨hheld, hp, -⟩ := (chargeOk_iff s).mp h
  obtain ⟨hheld, hp⟩ := thermal_held m.tbat hheld hp
  obtain ⟨hheld, hp⟩ := counted_held m.ibat hheld hp
  obtain ⟨hheld, hp⟩ := changeCharge_held m hheld hp
  exact countSafety_chargeOk (withTarget_driveIset_chargeOk m hheld hp)

theorem round_chargeOk {s : State} (r : RawMeas) (o : RoundOrder) (h : s.ChargeOk) : (s.round r o).ChargeOk := by
  refine round_keeps r o ?_ fun first changed w u hu => ?_
  · exact chargeOk_reads.keep (applyInput_touches _ _) rfl h
  · cases w with
    | supply => exact chargeOk_reads.keep (judge_touches ..) rfl hu
    | input => exact ite_keeps (chargeInput_chargeOk hu) hu
    | charge => exact ite_keeps (chargeRound_chargeOk _ hu) (chargeRound_chargeOk _ hu)

end State

open State

theorem setGen_iset_chargeOk {s : State} {g : Generator} (hg : g.running = s.iset.running) (h : s.ChargeOk) :
    (s.setGen .iset g).ChargeOk := by
  obtain ⟨hquiet, ht, hceil, ht0, ht1, hc0, hc1, hrun, hrest⟩ := h
  exact ⟨hquiet, ht, hceil, ht0, ht1, hc0, hc1, by simpa [setGen, hg] using hrun, hrest⟩

theorem exec_keeps_charge (c : Instr) (s t : State) (hs : s.ChargeOk) (h : exec c s = .next t) : t.ChargeOk := by
  have hfoot := exec_touches h
  cases c <;> dsimp only [exec] at h
  case por v l =>
    cases h
    simp [ChargeOk, por, reset, Charge.atPor, Generator.stopped, ChargeState.charging]
  case softReset p f =>
    refine doRequest_keeps chargeOk_reads rfl (fun u hu => ?_) hs h
    unfold Machine.softReset
    split
    · exact hu
    · exact chargeSoftReset_chargeOk _
  case generatorPeriodStart g =>
    cases g with
    | ftrig => exact chargeOk_reads.keep hfoot rfl hs
    | iset => exact event_keeps h hs fun _ _ => setGen_iset_chargeOk rfl hs
  case generatorWidthEnd g =>
    cases g with
    | ftrig => exact chargeOk_reads.keep hfoot rfl hs
    | iset => exact event_keeps h hs fun _ _ => setGen_iset_chargeOk rfl hs
  case measurementRound r o => exact event_keeps h hs fun _ _ => round_chargeOk r o hs
  case presentQualificationExpiry | rideThroughExpiry =>
    exact event_keeps h hs fun _ _ =>
      chargeInput_chargeOk (chargeOk_reads.keep (inputBecomes_touches _ _) rfl hs)
  case qualificationExpiry => exact event_keeps h hs fun _ _ => qualified_chargeOk hs
  case chargeSet p f =>
    exact doRequest_keeps chargeOk_reads rfl (fun u hu => chargeSettings_chargeOk _ hu) hs h
  case chargeEnable p f =>
    refine doRequest_keeps chargeOk_reads rfl (fun u hu => ?_) hs h
    unfold chargeEnable
    split
    · exact hu
    · exact enableCharge_chargeOk _ hu
  case faultClear p f =>
    refine doRequest_keeps chargeOk_reads rfl (fun u hu => ?_) hs h
    unfold faultClear
    split
    · refine toCharge_chargeOk ?_ hu
      split <;> decide
    · exact hu
  all_goals exact chargeOk_reads.keep hfoot rfl hs

/-- Settles O55: every change of charge state keeps the invariant but for the caps and the resume state, and a round
forms target, ceiling and ISET anew after its change. -/
theorem stepKeepsCharge : Obligations.StepKeepsCharge :=
  fun _ _ => step_keeps_of_exec chargeOk_reads rfl exec_keeps_charge

end Sys2Proof.Machine

/-! # Every step keeps the supply's timers, rail, gate and charge in agreement (R125, R132, R142 to R153, R167) -/

namespace Sys2Proof.Machine

/-- The state a request's rule leaves, when it chooses between two replies. -/
theorem ite_fst_keeps {α β : Type} {P : α → Prop} {c : Prop} [Decidable c] {x y : α × β} (hx : P x.1) (hy : P y.1) :
    P (if c then x else y).1 :=
  ite_keeps (P := fun r : α × β => P r.1) hx hy

namespace State

/-! ### The supply and the store -/

/-- What `SupplyOk` says of the supply, its rail and the store. -/
@[reducible] def PowerOk (s : State) : Prop :=
  (s.supply.hold.isSome ↔ s.supply.state = .finishing)
  ∧ (s.supply.debounce.isSome → s.supply.state = .normal ∧ s.supply.input = .absent)
  ∧ (s.supply.present.isSome → s.supply.input = .absent) ∧ (s.supply.ride.isSome → s.supply.input = .present)
  ∧ (s.supply.input = .present → s.supply.state = .normal)
  ∧ (s.supply.rail.isRamping = true → s.supply.state = .normal) ∧ (s.supply.state = .shutdown → s.supply.rail = .off)
  ∧ (s.supply.state = .shutdown → s.store.gate = .closed)
  ∧ (s.store.comparator = .low → s.store.gate = .closed) ∧ (s.store.vsys = true → s.store.latch = true)

/-- R167: the charger is OFF without an input, and its qualification timer runs in QUALIFY alone. -/
@[reducible] def ChargeIdle (s : State) : Prop :=
  (s.supply.input = .absent → s.charge.state = .off) ∧ (s.charge.qual.isSome → s.charge.state = .qualify)

theorem supplyOk_iff (s : State) : s.SupplyOk ↔ s.PowerOk ∧ s.ChargeIdle := by
  simp only [SupplyOk, PowerOk, ChargeIdle, and_assoc]

theorem powerOk_reads : Reads [.inputs, .mode, .rail, .gates] PowerOk := by
  intro s t h hs
  simp only [List.forall_mem_cons, Piece.Same] at h
  obtain ⟨⟨hin, hpres, hride, hdeb, hhold⟩, ⟨hst, -⟩, ⟨hrail, -⟩, ⟨hv, hl, hc, hg⟩, -⟩ := h
  simpa only [PowerOk, hin, hpres, hride, hdeb, hhold, hst, hrail, hv, hl, hc, hg] using hs

theorem railGoesOff_rail (s : State) (st : Option Status) : (s.railGoesOff st).supply.rail = .off := by
  have heffects : s.railEffects.supply.rail = .off := by
    have h := ((frameRailOff_touches { s with
      supply := { s.supply with rail := .off, ramp := none }
      charge := { s.charge with cls := 0 } }).andThen (abandon_touches _ .a)
      (rs := [.ftrig, .tracker, .bands, .corrections, .slots, .pairs, .queue]) (by decide) (by decide))
    exact (h.same .rail (by decide)).1
  unfold railGoesOff
  split
  · assumption
  · split
    · simpa using heffects
    · exact heffects

theorem railGoesOff_powerOk {s : State} (st : Option Status) (h : s.PowerOk) : (s.railGoesOff st).PowerOk := by
  have hfoot := railGoesOff_touches s st
  obtain ⟨hin, hpres, hride, hdeb, hhold⟩ := hfoot.same .inputs (by decide)
  obtain ⟨hst, -⟩ := hfoot.same .mode (by decide)
  obtain ⟨hv, hl, hc, hg⟩ := hfoot.same .gates (by decide)
  obtain ⟨h1, h2, h3, h4, h5, -, -, h8, h9, h10⟩ := h
  simp only [PowerOk, hin, hpres, hride, hdeb, hhold, hst, hv, hl, hc, hg, railGoesOff_rail]
  exact ⟨h1, h2, h3, h4, h5, by simp [Rail.isRamping], by simp, h8, h9, h10⟩

theorem supplyNormal_powerOk {s : State} (hst : s.supply.state ≠ .normal) (h : s.PowerOk) : s.supplyNormal.PowerOk := by
  obtain ⟨-, h2, h3, h4, -, h6, -, -, h9, h10⟩ := h
  refine ⟨by simp [supplyNormal], ?_, h3, h4, fun _ => rfl, fun _ => rfl, by simp [supplyNormal],
    by simp [supplyNormal], ?_, h10⟩
  · exact fun hd => absurd (h2 hd).1 hst
  · intro hlow
    have hlow' : s.store.comparator = .low := hlow
    simp [supplyNormal, hlow', h9 hlow']

theorem enterFinishing_powerOk {s : State} (hin : s.supply.input = .absent) (h : s.PowerOk) :
    s.enterFinishing.PowerOk := by
  obtain ⟨-, -, h3, h4, -, -, -, -, h9, h10⟩ := h
  unfold enterFinishing
  dsimp only
  split
  case h_1 hr =>
    generalize hu : (({ s with supply := { s.supply with
      state := .finishing, pwrfail := .high, debounce := none
      hold := some (later s.tick s.supply.settings.hold) } } : State).raise .supplyLow) = u
    have hfoot := railGoesOff_touches u (some .wrongState)
    obtain ⟨hin', hpres, hride, hdeb, hhold⟩ := hfoot.same .inputs (by decide)
    obtain ⟨hst, -⟩ := hfoot.same .mode (by decide)
    obtain ⟨hv, hl, hc, hg⟩ := hfoot.same .gates (by decide)
    simp only [PowerOk, hin', hpres, hride, hdeb, hhold, hst, hv, hl, hc, hg, railGoesOff_rail]
    subst hu
    exact ⟨by simp, by simp, h3, h4, by simp [hin], by simp [Rail.isRamping], by simp, by simp, h9, h10⟩
  case h_2 hr =>
    refine ⟨by simp, by simp, h3, h4, by simp [hin], ?_, by simp, by simp, h9, h10⟩
    intro hramp
    cases hrail : s.supply.rail with
    | ramping t => exact absurd hrail (hr t)
    | off | on => simp [hrail, Rail.isRamping] at hramp

@[simp] theorem seal_supply (s : State) (cause : CutCause) : (s.seal cause).supply = s.supply := by
  unfold State.seal
  dsimp only
  split <;> split <;> rfl

theorem seal_store (s : State) (cause : CutCause) : (s.seal cause).store.vsys = s.store.vsys
    ∧ (s.seal cause).store.latch = s.store.latch ∧ (s.seal cause).store.comparator = s.store.comparator
    ∧ (s.seal cause).store.gate = if cause.closesGate then .closed else s.store.gate := by
  unfold State.seal
  dsimp only
  cases s.catalogue.openClip <;> cases cause.closesGate <;> exact ⟨rfl, rfl, rfl, rfl⟩

theorem seal_powerOk {s : State} (cause : CutCause) (h : s.PowerOk) : (s.seal cause).PowerOk := by
  obtain ⟨hv, hl, hc, hg⟩ := seal_store s cause
  obtain ⟨h1, h2, h3, h4, h5, h6, h7, h8, h9, h10⟩ := h
  simp only [PowerOk, seal_supply, hv, hl, hc, hg]
  refine ⟨h1, h2, h3, h4, h5, h6, h7, ?_, ?_, h10⟩
  · exact fun hst => ite_keeps (P := (· = Gate.closed)) rfl (h8 hst)
  · exact fun hlow => ite_keeps (P := (· = Gate.closed)) rfl (h9 hlow)

/-- The state that `shutDown` leaves of the supply and the store. -/
theorem shutDown_fields (s : State) {cause : CutCause} (hcause : cause.closesGate = true) :
    (s.shutDown cause).supply.state = .shutdown ∧ (s.shutDown cause).supply.hold = none
    ∧ (s.shutDown cause).supply.debounce = none ∧ (s.shutDown cause).supply.rail = .off
    ∧ (s.shutDown cause).supply.input = s.supply.input ∧ (s.shutDown cause).supply.present = s.supply.present
    ∧ (s.shutDown cause).supply.ride = s.supply.ride ∧ (s.shutDown cause).store.gate = .closed
    ∧ (s.shutDown cause).store.vsys = s.store.vsys ∧ (s.shutDown cause).store.latch = s.store.latch := by
  obtain ⟨hv, hl, -, hg⟩ := seal_store s cause
  have hrail := railGoesOff_touches (s.seal cause) (some .wrongState)
  have hlink := linkStop_touches ((s.seal cause).railGoesOff (some .wrongState))
  obtain ⟨hin, hpres, hride, -, -⟩ := hrail.same .inputs (by decide)
  obtain ⟨hin', hpres', hride', -, -⟩ := hlink.same .inputs (by decide)
  obtain ⟨hvr, hlr, -, hgr⟩ := hrail.same .gates (by decide)
  obtain ⟨hvl, hll, -, hgl⟩ := hlink.same .gates (by decide)
  obtain ⟨hrl, -⟩ := hlink.same .rail (by decide)
  simp only [shutDown]
  rw [hin', hin, hpres', hpres, hride', hride, hvl, hvr, hv, hll, hlr, hl, hgl, hgr, hg, if_pos hcause, hrl,
    railGoesOff_rail, seal_supply]
  simp

theorem shutDown_powerOk {s : State} {cause : CutCause} (hcause : cause.closesGate = true)
    (hin : s.supply.input = .absent) (h : s.PowerOk) : (s.shutDown cause).PowerOk := by
  obtain ⟨hst, hhold, hdeb, hrail, hin', hpres, hride, hg, hv, hl⟩ := shutDown_fields s hcause
  obtain ⟨-, -, h3, h4, -, -, -, -, -, h10⟩ := h
  simp only [PowerOk, hst, hhold, hdeb, hrail, hin', hpres, hride, hg, hv, hl, hin]
  exact ⟨by simp, by simp, by simp, by simpa [hin] using h4, by simp, by simp [Rail.isRamping], by simp, by simp,
    by simp, h10⟩

theorem hardCut_powerOk {s : State} (hin : s.supply.input = .absent) (h : s.PowerOk) : s.hardCut.PowerOk := by
  have hdown := shutDown_powerOk (cause := .hardCut) rfl hin h
  exact ite_keeps hdown hdown

theorem inputBecomes_powerOk {s : State} (x : InputState) (hx : x = .absent → s.supply.input = .present) (h : s.PowerOk) :
    (s.inputBecomes x).PowerOk := by
  obtain ⟨h1, h2, -, -, h5, h6, h7, h8, h9, h10⟩ := h
  cases x with
  | absent =>
    refine ⟨h1, ?_, fun _ => rfl, ?_, ?_, h6, h7, h8, h9, h10⟩
    · exact fun hd => ⟨(h2 hd).1, rfl⟩
    · intro hride
      cases hride
    · intro hin
      cases hin
  | present =>
    unfold inputBecomes
    dsimp only
    split
    case isTrue hn =>
      have hn' : s.supply.state = .normal := hn
      exact ⟨h1, by simp, by simp, by simp, fun _ => hn', h6, h7, h8, h9, h10⟩
    case isFalse hn =>
      have hn' : s.supply.state ≠ .normal := hn
      refine ⟨by simp [supplyNormal], by simp [supplyNormal], by simp [supplyNormal], by simp [supplyNormal],
        fun _ => rfl, fun _ => rfl, by simp [supplyNormal], by simp [supplyNormal], ?_, h10⟩
      intro hlow
      have hlow' : s.store.comparator = .low := hlow
      simp [supplyNormal, hlow', h9 hlow']

theorem judge_powerOk {s : State} (m : MeasTable) (first : Bool) (h : s.PowerOk) : (s.judge m first).PowerOk := by
  refine judge_keeps h (fun _ hin => hardCut_powerOk hin h) (fun _ hin => enterFinishing_powerOk hin h) ?_
    fun hst => supplyNormal_powerOk hst h
  intro t hst hin
  obtain ⟨h1, -, h3, h4, h5, h6, h7, h8, h9, h10⟩ := h
  exact ⟨h1, fun ht => ⟨hst, hin ht⟩, h3, h4, h5, h6, h7, h8, h9, h10⟩

theorem applyInput_powerOk {s : State} (m : MeasTable) (h : s.PowerOk) : (s.applyInput m).PowerOk := by
  refine applyInput_keeps (fun _ => h) (fun _ => inputBecomes_powerOk _ (by simp) h)
    (fun hin => inputBecomes_powerOk _ (fun _ => hin) h) (fun t hin => ?_) (fun t hin => ?_)
  · obtain ⟨h1, h2, -, h4, h5, h6, h7, h8, h9, h10⟩ := h
    exact ⟨h1, h2, fun _ => hin, h4, h5, h6, h7, h8, h9, h10⟩
  · obtain ⟨h1, h2, h3, -, h5, h6, h7, h8, h9, h10⟩ := h
    exact ⟨h1, h2, h3, fun _ => hin, h5, h6, h7, h8, h9, h10⟩

theorem round_powerOk {s : State} (r : RawMeas) (o : RoundOrder) (h : s.PowerOk) : (s.round r o).PowerOk := by
  refine round_keeps r o (applyInput_powerOk _ h) fun first changed w u hu => ?_
  cases w with
  | supply => exact judge_powerOk _ _ hu
  | input =>
    exact ite_keeps (powerOk_reads.keep (chargeInput_touches u) rfl hu) hu
  | charge => exact powerOk_reads.keep (chargeAndGauge_touches ..) rfl hu

theorem railUp_powerOk {s : State} (h : s.PowerOk) : s.railUp.PowerOk := by
  unfold railUp
  split
  case h_1 t ht =>
    refine powerOk_reads.keep (complete_touches ..) rfl ?_
    obtain ⟨h1, h2, h3, h4, h5, h6, h7, h8, h9, h10⟩ := h
    have hst : s.supply.state = .normal := h6 (by simp [ht, Rail.isRamping])
    exact ⟨h1, h2, h3, h4, h5, by simp [Rail.isRamping], by simp [hst], h8, h9, h10⟩
  case h_2 => exact h

theorem railOn_powerOk {s : State} (pg : Level) (p : Port) (b : List Byte) (h : s.PowerOk) :
    (Machine.railOn pg p b s).1.PowerOk := by
  unfold Machine.railOn
  split
  · exact h
  case isFalse hst =>
    rw [Decidable.not_not] at hst
    split
    · exact h
    · exact h
    · split
      · obtain ⟨h1, h2, h3, h4, h5, -, -, h8, h9, h10⟩ := h
        cases pg <;> exact ⟨h1, h2, h3, h4, h5, fun _ => hst, by simp [startRail, hst], h8, h9, h10⟩
      · exact h

theorem railOff_powerOk {s : State} (h : s.PowerOk) : s.railOff.PowerOk :=
  railGoesOff_powerOk _ (ite_keeps (seal_powerOk .forced h) h)

theorem softReset_powerOk {s : State} (h : s.PowerOk) : s.softReset.PowerOk := by
  have hports := powerOk_reads.keep (portsSoftReset_touches _) rfl (railGoesOff_powerOk none h)
  have hmotion := powerOk_reads.keep (motionSoftReset_touches _) rfl hports
  exact powerOk_reads.keep (chargeSoftReset_touches _) rfl hmotion

theorem por_powerOk (s : State) (v : Nat) (l : Level) : (s.por v l).PowerOk := by
  have hstore : ((storeAtPor s v).2.comparator = .low → (storeAtPor s v).2.gate = .closed)
      ∧ (storeAtPor s v).2.latch = true := by
    unfold storeAtPor
    dsimp only
    split <;> exact ⟨fun hlow => by simp_all [gateAt], rfl⟩
  obtain ⟨hgate, hlatch⟩ := hstore
  have hsupply : (s.por v l).supply = Supply.atPor := rfl
  simp only [PowerOk, hsupply]
  refine ⟨by decide, by decide, by decide, by decide, by decide, by decide, by decide, ?_, hgate, fun _ => hlatch⟩
  intro hst
  cases hst

theorem inputAbsent_of_finishing {s : State} (hst : s.supply.state = .finishing) (h : s.PowerOk) :
    s.supply.input = .absent := by
  obtain ⟨-, -, -, -, h5, -⟩ := h
  cases hin : s.supply.input with
  | absent => rfl
  | present => simp [h5 hin] at hst

end State

open State

theorem exec_keeps_power (c : Instr) (s t : State) (hs : s.PowerOk) (h : exec c s = .next t) : t.PowerOk := by
  have hfoot := exec_touches h
  cases c <;> dsimp only [exec] at h
  case por v l => cases h; exact por_powerOk ..
  case vsysLoss =>
    obtain ⟨h1, h2, h3, h4, h5, h6, h7, h8, h9, -⟩ := id hs
    exact whenPowered_keeps h hs fun _ => ⟨h1, h2, h3, h4, h5, h6, h7, h8, h9, by simp⟩
  case retentionLoss =>
    cases h
    split
    · exact hs
    case isFalse hv =>
      obtain ⟨h1, h2, h3, h4, h5, h6, h7, h8, h9, -⟩ := hs
      exact ⟨h1, h2, h3, h4, h5, h6, h7, h8, h9, fun hv' => absurd hv' hv⟩
  case comparatorFall =>
    obtain ⟨h1, h2, h3, h4, h5, h6, h7, -, -, h10⟩ := id hs
    exact event_keeps h hs fun _ _ => ⟨h1, h2, h3, h4, h5, h6, h7, fun _ => rfl, fun _ => rfl, h10⟩
  case comparatorRise =>
    obtain ⟨h1, h2, h3, h4, h5, h6, h7, h8, -, h10⟩ := id hs
    refine event_keeps h hs fun _ _ => ⟨h1, h2, h3, h4, h5, h6, h7, fun hst => ?_, by simp, h10⟩
    have hst' : s.supply.state = .shutdown := hst
    simp [hst', h8 hst']
  case softReset p f =>
    exact doRequest_keeps powerOk_reads rfl (fun u hu => ite_fst_keeps hu (softReset_powerOk hu)) hs h
  case measurementRound r o => exact event_keeps h hs fun _ _ => round_powerOk r o hs
  case presentQualificationExpiry =>
    exact event_keeps h hs fun _ _ =>
      powerOk_reads.keep (chargeInput_touches _) rfl (inputBecomes_powerOk _ (by simp) hs)
  case rideThroughExpiry =>
    refine event_keeps h hs fun _ hdue =>
      powerOk_reads.keep (chargeInput_touches _) rfl (inputBecomes_powerOk _ (fun _ => ?_) hs)
    obtain ⟨-, -, -, h4, -⟩ := hs
    obtain ⟨x, hx, -⟩ := Option.map_eq_some_iff.mp ((due_iff ..).mp hdue)
    exact h4 (by simp [hx])
  case batteryLowDebounceExpiry =>
    refine event_keeps h hs fun _ hdue => enterFinishing_powerOk ?_ hs
    obtain ⟨-, h2, -⟩ := hs
    obtain ⟨x, hx, -⟩ := Option.map_eq_some_iff.mp ((due_iff ..).mp hdue)
    exact (h2 (by simp [hx])).2
  case holdExpiry =>
    refine event_keeps h hs fun _ hdue => shutDown_powerOk rfl (inputAbsent_of_finishing ?_ hs) hs
    obtain ⟨h1, -⟩ := hs
    exact h1.mp (by simp [(due_iff ..).mp hdue])
  case mrailPgRise => exact whenPowered_keeps h hs fun _ => railUp_powerOk hs
  case rampTimeout => exact event_keeps h hs fun _ _ => railGoesOff_powerOk _ hs
  case railOn p f pg => exact doRequest_keeps powerOk_reads rfl (fun u hu => railOn_powerOk pg p f.body hu) hs h
  case railOff p f =>
    refine doRequest_keeps powerOk_reads rfl (fun u hu => ?_) hs h
    exact ite_fst_keeps hu (ite_fst_keeps hu (railOff_powerOk hu))
  case generatorPeriodStart g => cases g <;> exact powerOk_reads.keep hfoot rfl hs
  case generatorWidthEnd g => cases g <;> exact powerOk_reads.keep hfoot rfl hs
  all_goals exact powerOk_reads.keep hfoot rfl hs

end Sys2Proof.Machine

namespace Sys2Proof.Machine
namespace State

/-! ### Charging only from an input (R167) -/

theorem chargeIdle_reads : Reads [.inputs, .charger] ChargeIdle := by
  intro s t h hs
  simp only [List.forall_mem_cons, Piece.Same] at h
  obtain ⟨⟨hin, -⟩, ⟨-, hst, -, hq, -⟩, -⟩ := h
  simpa only [ChargeIdle, hin, hst, hq] using hs

/-- An operation that leaves the input state and the charger alone keeps the charger idle without an input. -/
theorem chargeIdle_of_touches {ps : List Piece} {s t : State} (hfoot : Touches ps s t) (hps : Piece.charger ∉ ps)
    (hin : t.supply.input = s.supply.input) (h : s.ChargeIdle) : t.ChargeIdle := by
  obtain ⟨-, hst, -, hq, -⟩ := hfoot.same .charger hps
  simpa only [ChargeIdle, hin, hst, hq] using h

/-- R168: the qualification timer runs in QUALIFY alone. -/
@[reducible] def QualOk (s : State) : Prop := s.charge.qual.isSome → s.charge.state = .qualify

theorem toCharge_qualOk {s : State} (new : ChargeState) (h : s.QualOk) : (s.toCharge new).QualOk := by
  rw [QualOk, toCharge_charge]
  split
  · exact h
  · intro hq
    by_cases hn : new = .qualify
    · exact hn
    · by_cases ho : s.charge.state = .qualify
      · simp [Charge.enter, hn, ho] at hq
      · simp only [Charge.enter, hn, ho] at hq
        exact absurd (h hq) ho

theorem toCharge_chargeIdle {s : State} {new : ChargeState} (hnew : s.supply.input = .absent → new = .off)
    (h : s.QualOk) : (s.toCharge new).ChargeIdle :=
  ⟨by simpa using hnew, toCharge_qualOk new h⟩

theorem changeCharge_qualOk {s : State} (m : MeasTable) (h : s.QualOk) : (s.changeCharge m).QualOk := by
  refine changeCharge_keeps (fun _ => h) ?_ (fun _ hst _ => hst) ?_ ?_ ?_ ?_
  · exact fun _ _ _ _ => toCharge_qualOk _ h
  · exact fun _ _ _ _ _ => toCharge_qualOk _ h
  · exact fun _ _ _ => toCharge_qualOk _ h
  · exact fun _ _ _ => toCharge_qualOk _ h
  · exact fun _ => toCharge_qualOk _ h

/-- The change of charge state in a round keeps the charger idle: every change starts from a state that is not OFF. -/
theorem changeCharge_chargeIdle {s : State} (m : MeasTable) (h : s.ChargeIdle) : (s.changeCharge m).ChargeIdle := by
  obtain ⟨hidle, hq⟩ := h
  have hinput {p : Prop} (hst : s.charge.state ≠ .off) (hin : s.supply.input = .absent) : p := absurd (hidle hin) hst
  refine changeCharge_keeps (fun _ => ⟨hidle, hq⟩) ?_ ?_ ?_ ?_ ?_ ?_
  · exact fun c hoff _ _ => toCharge_chargeIdle (hinput hoff) hq
  · exact fun q hst => ⟨hidle, fun _ => hst⟩
  · exact fun r _ hoff _ _ => toCharge_chargeIdle (hinput hoff) hq
  · exact fun r hst _ => toCharge_chargeIdle (hinput (by simp [hst])) hq
  · exact fun new _ hst => toCharge_chargeIdle (hinput (by rcases hst with h | h | h <;> simp [h])) hq
  · exact fun hst => toCharge_chargeIdle (hinput (by simp [hst])) hq

theorem thermal_state (c : Charge) (code : Nat) :
    (c.thermal code).state = c.state ∧ (c.thermal code).qual = c.qual := by
  unfold Charge.thermal
  split <;> exact ⟨rfl, rfl⟩

theorem counted_state (c : Charge) (i : Int) : (c.counted i).state = c.state ∧ (c.counted i).qual = c.qual := by
  unfold Charge.counted
  split <;> exact ⟨rfl, rfl⟩

theorem chargeRound_chargeIdle {s : State} (m : MeasTable) (h : s.ChargeIdle) : (s.chargeRound m).ChargeIdle := by
  obtain ⟨hts, htq⟩ := thermal_state s.charge m.tbat
  obtain ⟨hcs, hcq⟩ := counted_state (s.charge.thermal m.tbat) m.ibat
  have hchanged : (s.changedInRound m).ChargeIdle :=
    changeCharge_chargeIdle m (by simpa only [ChargeIdle, hcs, hcq, hts, htq] using h)
  simpa [ChargeIdle, chargeRound_charge] using hchanged

theorem chargeRound_qualOk {s : State} (m : MeasTable) (h : s.QualOk) : (s.chargeRound m).QualOk := by
  obtain ⟨hts, htq⟩ := thermal_state s.charge m.tbat
  obtain ⟨hcs, hcq⟩ := counted_state (s.charge.thermal m.tbat) m.ibat
  have hchanged : (s.changedInRound m).QualOk :=
    changeCharge_qualOk m (by simpa only [QualOk, hcs, hcq, hts, htq] using h)
  simpa [QualOk, chargeRound_charge] using hchanged

theorem chargeAndGauge_chargeIdle {s : State} (m : MeasTable) (gf : Bool) (h : s.ChargeIdle) :
    (s.chargeAndGauge m gf).ChargeIdle :=
  ite_keeps (chargeRound_chargeIdle (s := { s with gauge := s.gauge.add m.ibat }) m h) (chargeRound_chargeIdle m h)

/-- The taking of the input brings charge state and input together, whatever they were. -/
theorem chargeInput_chargeIdle {s : State} (h : s.QualOk) : s.chargeInput.ChargeIdle := by
  unfold chargeInput
  split
  case h_1 hin => exact toCharge_chargeIdle (fun _ => rfl) h
  case h_2 hin => exact ite_keeps (toCharge_chargeIdle (by simp [hin]) h) ⟨by simp [hin], h⟩

theorem enterFinishing_input (s : State) : s.enterFinishing.supply.input = s.supply.input := by
  unfold enterFinishing
  dsimp only
  split
  · exact ((railGoesOff_touches ..).same .inputs (by decide)).1
  · rfl

theorem hardCut_input (s : State) : s.hardCut.supply.input = s.supply.input := by
  obtain ⟨-, -, -, -, hin, -⟩ := shutDown_fields s (cause := .hardCut) rfl
  exact ite_keeps (P := fun u : State => u.supply.input = s.supply.input) hin hin

theorem judge_input (s : State) (m : MeasTable) (first : Bool) : (s.judge m first).supply.input = s.supply.input :=
  judge_keeps (Inv := fun u => u.supply.input = s.supply.input) rfl (fun _ _ => hardCut_input s)
    (fun _ _ => enterFinishing_input s) (fun _ _ _ => rfl) fun _ => rfl

theorem judge_chargeIdle {s : State} (m : MeasTable) (first : Bool) (h : s.ChargeIdle) :
    (s.judge m first).ChargeIdle :=
  chargeIdle_of_touches (judge_touches s m first) (by decide) (judge_input s m first) h

theorem work_qualOk {s : State} (m : MeasTable) (first changed gf : Bool) (w : RoundWork) (h : s.QualOk) :
    (State.work m first changed gf s w).QualOk := by
  cases w with
  | supply =>
    obtain ⟨-, hst, -, hq, -⟩ := (judge_touches s m first).same .charger (by decide)
    simpa only [State.work, QualOk, hst, hq] using h
  | input => exact ite_keeps (chargeInput_chargeIdle h).2 h
  | charge =>
    exact ite_keeps (chargeRound_qualOk (s := { s with gauge := s.gauge.add m.ibat }) m h) (chargeRound_qualOk m h)

/-- The works of a round keep the charger idle; where the round has changed the input, the taking of the input among
them brings charge state and input together. -/
theorem works_chargeIdle {m : MeasTable} {first changed gf : Bool} (ws : List RoundWork) {s : State} (hq : s.QualOk)
    (h : s.ChargeIdle ∨ changed = true ∧ RoundWork.input ∈ ws) :
    (ws.foldl (State.work m first changed gf) s).ChargeIdle := by
  induction ws generalizing s with
  | nil =>
    rcases h with h | ⟨-, h⟩
    · exact h
    · exact absurd h (by simp)
  | cons w ws ih =>
    refine ih (work_qualOk m first changed gf w hq) ?_
    cases w with
    | supply => exact h.imp (judge_chargeIdle m first) (by simp)
    | charge => exact h.imp (chargeAndGauge_chargeIdle m gf) (by simp)
    | input =>
      refine .inl ?_
      rcases h with h | ⟨hc, -⟩
      · exact ite_keeps (chargeInput_chargeIdle hq) h
      · simpa only [State.work, hc, if_true] using chargeInput_chargeIdle hq

theorem input_mem_works (o : WorkOrder) : RoundWork.input ∈ WorkOrder.list o := by
  cases o <;> decide

theorem applyInput_charge (s : State) (m : MeasTable) :
    (s.applyInput m).charge.state = s.charge.state ∧ (s.applyInput m).charge.qual = s.charge.qual := by
  obtain ⟨-, hst, -, hq, -⟩ := (applyInput_touches s m).same .charger (by decide)
  exact ⟨hst, hq⟩

theorem round_chargeIdle {s : State} (r : RawMeas) (o : RoundOrder) (h : s.ChargeIdle) : (s.round r o).ChargeIdle := by
  obtain ⟨hidle, hqual⟩ := h
  obtain ⟨hst, hq⟩ := applyInput_charge
    { s with supply := { s.supply with table := some (RawMeas.table r s.tick) } } (RawMeas.table r s.tick)
  refine works_chargeIdle (WorkOrder.list o.works) (by simpa only [QualOk, hst, hq] using hqual) ?_
  by_cases hin : (State.applyInput { s with supply := { s.supply with table := some (RawMeas.table r s.tick) } }
      (RawMeas.table r s.tick)).supply.input = s.supply.input
  · exact .inl (by simpa only [ChargeIdle, hst, hq, hin] using And.intro hidle hqual)
  · exact .inr ⟨by simpa using hin, input_mem_works _⟩

/-! ### The other operations that reach the charger or the input -/

theorem qualified_chargeIdle {s : State} (hq : s.charge.state = .qualify) (h : s.ChargeIdle) :
    s.qualified.ChargeIdle := by
  obtain ⟨hidle, hqual⟩ := h
  have hinput {p : Prop} (hin : s.supply.input = .absent) : p := absurd (hidle hin) (by simp [hq])
  exact ite_keeps (toCharge_chargeIdle hinput hqual) (toCharge_chargeIdle hinput hqual)

theorem chargeSettings_chargeIdle {s : State} (x : ChargeSettings) (h : s.ChargeIdle) :
    (s.chargeSettings x).ChargeIdle := by
  unfold chargeSettings
  dsimp only
  split
  · simpa only [ChargeIdle, driveIset_charge, driveIset_supply] using h
  · exact h

theorem enableCharge_chargeIdle {s : State} (on : Bool) (h : s.ChargeIdle) : (s.enableCharge on).ChargeIdle := by
  have hset : ({ s with charge := { s.charge with enable := on } } : State).ChargeIdle := h
  unfold enableCharge
  dsimp only
  split
  · split
    case isTrue hp => exact toCharge_chargeIdle (by simp [hp.2]) hset.2
    case isFalse => exact hset
  · exact ite_keeps hset (toCharge_chargeIdle (fun _ => rfl) hset.2)

theorem faultClear_chargeIdle {s : State} (p : Port) (b : List Byte) (h : s.ChargeIdle) :
    (Machine.faultClear p b s).1.ChargeIdle := by
  unfold Machine.faultClear
  split
  case isTrue hf => exact toCharge_chargeIdle (fun hin => absurd (h.1 hin) (by simp [hf])) h.2
  case isFalse => exact h

theorem inputBecomes_qualOk {s : State} (x : InputState) (h : s.QualOk) : (s.inputBecomes x).QualOk := by
  obtain ⟨-, hst, -, hq, -⟩ := (inputBecomes_touches s x).same .charger (by decide)
  simpa only [QualOk, hst, hq] using h

theorem chargeSoftReset_chargeIdle (s : State) : s.chargeSoftReset.ChargeIdle :=
  chargeInput_chargeIdle (by simp [QualOk])

end State

open State

theorem exec_keeps_chargeIdle (c : Instr) (s t : State) (hs : s.ChargeIdle) (h : exec c s = .next t) :
    t.ChargeIdle := by
  have hfoot := exec_touches h
  cases c <;> dsimp only [exec] at h
  case por v l =>
    cases h
    exact ⟨fun _ => rfl, fun hq => by cases hq⟩
  case softReset p f =>
    exact doRequest_keeps chargeIdle_reads rfl (fun u hu => ite_fst_keeps hu (chargeSoftReset_chargeIdle _)) hs h
  case measurementRound r o => exact event_keeps h hs fun _ _ => round_chargeIdle r o hs
  case presentQualificationExpiry | rideThroughExpiry =>
    exact event_keeps h hs fun _ _ => chargeInput_chargeIdle (inputBecomes_qualOk _ hs.2)
  case batteryLowDebounceExpiry =>
    exact event_keeps h hs fun _ _ =>
      chargeIdle_of_touches (enterFinishing_touches s) (by decide) (enterFinishing_input s) hs
  case holdExpiry =>
    obtain ⟨-, -, -, -, hin, -⟩ := shutDown_fields s (cause := .holdExpired) rfl
    exact event_keeps h hs fun _ _ => chargeIdle_of_touches (shutDown_touches s _) (by decide) hin hs
  case qualificationExpiry =>
    refine event_keeps h hs fun _ hdue => qualified_chargeIdle (hs.2 ?_) hs
    simp [(due_iff ..).mp hdue]
  case chargeSet p f =>
    exact doRequest_keeps chargeIdle_reads rfl (fun u hu => chargeSettings_chargeIdle _ hu) hs h
  case chargeEnable p f =>
    exact doRequest_keeps chargeIdle_reads rfl (fun u hu => ite_fst_keeps hu (enableCharge_chargeIdle _ hu)) hs h
  case faultClear p f =>
    exact doRequest_keeps chargeIdle_reads rfl (fun u hu => faultClear_chargeIdle p f.body hu) hs h
  case generatorPeriodStart g => cases g <;> exact chargeIdle_reads.keep hfoot rfl hs
  case generatorWidthEnd g => cases g <;> exact chargeIdle_reads.keep hfoot rfl hs
  all_goals exact chargeIdle_reads.keep hfoot rfl hs

theorem supplyOk_reads : Reads [.inputs, .mode, .rail, .gates, .charger] SupplyOk := by
  intro s t h hs
  rw [supplyOk_iff] at hs ⊢
  exact ⟨powerOk_reads.mono (by decide) h hs.1,
    chargeIdle_reads.mono (by decide) h hs.2⟩

/-- Settles O59: the supply with its rail and its store, and the charger that follows the input; a round may change the
input before the Charge Controller takes the change, and every order of its work contains that taking. -/
theorem stepKeepsSupply : Obligations.StepKeepsSupply := by
  refine fun _ _ => step_keeps_of_exec supplyOk_reads rfl fun c s t hs h => ?_
  rw [supplyOk_iff] at hs ⊢
  exact ⟨exec_keeps_power c s t hs.1 h, exec_keeps_chargeIdle c s t hs.2 h⟩

end Sys2Proof.Machine

/-! # Every step keeps the link's timers and bus transfers those of its state (R19, R27, R30, R34) -/

namespace Sys2Proof.Machine
namespace State

theorem linkOk_reads : Reads [.linkMode, .bus, .queue, .drdy] LinkOk := by
  intro s t h hs
  simp only [List.forall_mem_cons, Piece.Same] at h
  obtain ⟨⟨hst, hup, hrec, hstall, hatt⟩, hbus, hq, hd, -⟩ := h
  simpa only [LinkOk, hst, hup, hrec, hstall, hatt, hbus, hq, hd] using hs

/-- Out of RUNNING a transfer of the bus is one of the configuration. -/
theorem running_of_carries {st : LinkState} {b : Bus} (h : st.carries b = true)
    (hb : (∃ t g, b = .sampleBurst t g) ∨ ∃ a, b = .passThrough a) : st = .running := by
  revert h
  rcases hb with ⟨t, g, rfl⟩ | ⟨a, rfl⟩ <;> cases st <;> simp [LinkState.carries]

theorem configuring_of_carries {st : LinkState} {b : Bus} (h : st.carries b = true)
    (hb : b = .identityRead ∨ (∃ i, b = .bankWrite i) ∨ ∃ i, b = .verifyRead i) : st = .configuring := by
  revert h
  rcases hb with rfl | ⟨i, rfl⟩ | ⟨i, rfl⟩ <;> cases st <;> simp [LinkState.carries]

theorem free_of_carries {st : LinkState} {b : Bus} (h : st.carries b = true) (hc : st ≠ .configuring)
    (hr : st ≠ .running) : b = .free := by
  cases st <;> cases b <;> simp_all [LinkState.carries]

/-! ### Leaving the powered states -/

theorem linkDown_fields (s : State) (x : LinkState) :
    (s.linkDown x).link.state = x ∧ (s.linkDown x).link.bus = .free ∧ (s.linkDown x).link.queue = []
    ∧ (s.linkDown x).link.startup = none ∧ (s.linkDown x).link.recovery = none ∧ (s.linkDown x).link.stall = none
    ∧ (s.linkDown x).channels.drdy = none ∧ (s.linkDown x).link.attempts = s.link.attempts := by
  obtain ⟨-, -, -, -, hatt⟩ := (dropAll_touches s.link.queue s).same .linkMode (by decide)
  unfold linkDown
  dsimp only
  split
  · generalize hu : ({ (s.link.queue.foldl dropAccess s).emptied .drdy with
      link := { (s.link.queue.foldl dropAccess s).link with
        state := x, bus := .free, queue := [], replaced := false, startup := none, recovery := none
        stall := none } } : State) = u
    obtain ⟨hst, hup, hrec, hstall, hatt'⟩ := (motionStop_touches u).same .linkMode (by decide)
    have hbus : u.motionStop.link.bus = u.link.bus := (motionStop_touches u).same .bus (by decide)
    have hq : u.motionStop.link.queue = u.link.queue := (motionStop_touches u).same .queue (by decide)
    have hd : u.motionStop.channels.drdy = u.channels.drdy := (motionStop_touches u).same .drdy (by decide)
    rw [hst, hup, hrec, hstall, hatt', hbus, hq, hd]
    subst hu
    exact ⟨rfl, rfl, rfl, rfl, rfl, rfl, rfl, hatt⟩
  · exact ⟨rfl, rfl, rfl, rfl, rfl, rfl, rfl, hatt⟩

theorem linkStop_linkOk {s : State} (h : s.LinkOk) : s.linkStop.LinkOk := by
  obtain ⟨hst, hbus, hq, hup, hrec, hstall, hd, hatt⟩ := linkDown_fields s .off
  refine ite_keeps h ?_
  obtain ⟨-, -, -, -, -, -, -, h8, -⟩ := h
  simp only [LinkOk, hst, hbus, hq, hup, hrec, hstall, hd, hatt]
  exact ⟨by simp, by simp, by simp, rfl, by simp, by simp, by simp, h8, by simp⟩

theorem attemptFails_linkOk {s : State} (h : s.link.attempts ≤ 3) : s.attemptFails.LinkOk := by
  unfold attemptFails
  dsimp only
  split
  case isTrue hn =>
    obtain ⟨hst, hbus, hq, hup, hrec, hstall, hd, -⟩ := linkDown_fields s .recovering
    simp only [LinkOk, hst, hbus, hq, hup, hstall, hd]
    exact ⟨by simp, by simp, by simp, rfl, by simp, by simp, by simp, hn, by simp⟩
  case isFalse hn =>
    obtain ⟨hst, hbus, hq, hup, hrec, hstall, hd, hatt⟩ := linkDown_fields s .failed
    refine linkOk_reads.keep (raise_touches ..) rfl ?_
    simp only [LinkOk, hst, hbus, hq, hup, hrec, hstall, hd, hatt]
    exact ⟨by simp, by simp, by simp, rfl, by simp, by simp, by simp, h, fun _ => by omega⟩

theorem attempts_le {s : State} (h : s.LinkOk) : s.link.attempts ≤ 3 := by
  obtain ⟨-, -, -, -, -, -, -, h8, -⟩ := h
  exact h8

/-! ### Starting and configuring -/

theorem powerUp_linkOk {s : State} (hst : s.link.state = .off ∨ s.link.state = .failed ∨ s.link.state = .recovering)
    (hatt : s.link.attempts ≤ 3) (h3 : s.link.stall.isSome ↔ s.link.state = .running)
    (h4 : s.link.state.carries s.link.bus = true)
    (h7 : s.link.state ≠ .running → s.link.queue = [] ∧ s.channels.drdy = none) : s.powerUp.LinkOk := by
  have hrun : s.link.state ≠ .running := by
    rcases hst with hst | hst | hst <;> simp [hst]
  have hbus : s.link.bus = .free :=
    free_of_carries h4 (by rcases hst with hst | hst | hst <;> simp [hst]) hrun
  have hstall : s.link.stall.isSome ↔ False := by simp [h3, hrun]
  obtain ⟨hq, hd⟩ := h7 hrun
  refine ⟨by simp [powerUp], by simp [powerUp], by simpa [powerUp] using hstall, ?_, by simp [powerUp],
    fun _ => ⟨hq, hd⟩, fun _ => ⟨hq, hd⟩, hatt, by simp [powerUp]⟩
  simp [powerUp, hbus, LinkState.carries]

theorem enterRunning_linkOk {s : State} (hst : s.link.state = .configuring) (h : s.LinkOk) : s.enterRunning.LinkOk := by
  obtain ⟨h1, h2, -, -, -, -, h7, h8, -⟩ := h
  obtain ⟨hq, hd⟩ := h7 (by simp [hst])
  have hup : s.link.startup = none := by simpa [hst] using h1
  have hrec : s.link.recovery = none := by simpa [hst] using h2
  have hrunning : ({ s with link := { s.link with
      state := .running, bus := .free, stall := some (later s.tick s.link.stallSpan), first := true
      replaced := false } } : State).LinkOk :=
    ⟨by simp [hup], by simp [hrec], by simp, rfl, by simp, fun _ => ⟨hq, hd⟩, by simp, h8, by simp⟩
  exact ite_keeps (linkOk_reads.keep (raise_touches _ .imuRecovered) rfl hrunning) hrunning

theorem onBus_linkOk {s : State} {b : Bus} (hb : b ≠ .free) (hc : s.link.state.carries b = true) (h : s.LinkOk) :
    (s.onBus b).LinkOk := by
  obtain ⟨h1, h2, h3, -, -, -, h7, h8, h9⟩ := h
  exact ⟨h1, h2, h3, hc, fun _ => hb, fun hf => absurd hf hb, h7, h8, h9⟩

theorem replay_linkOk {s : State} (i : Nat) (hst : s.link.state = .configuring) (h : s.LinkOk) : (s.replay i).LinkOk := by
  unfold replay
  split
  · exact onBus_linkOk (by simp) (by simp [hst, LinkState.carries]) h
  · exact enterRunning_linkOk hst h

theorem startup_linkOk {s : State} (hst : s.link.state = .powering) (h : s.LinkOk) :
    ({ s with link := { s.link with state := .configuring, startup := none, bus := .identityRead } } : State).LinkOk := by
  obtain ⟨-, h2, h3, -, -, -, h7, h8, -⟩ := h
  obtain ⟨hq, hd⟩ := h7 (by simp [hst])
  exact ⟨by simp, by simpa [hst] using h2, by simpa [hst] using h3, rfl, by simp, by simp, fun _ => ⟨hq, hd⟩, h8, by simp⟩

theorem bankWritten_linkOk {s : State} (h : s.LinkOk) : s.bankWritten.LinkOk := by
  unfold bankWritten
  split
  case h_1 i hbus =>
    obtain ⟨-, -, -, h4, -⟩ := id h
    have hst := configuring_of_carries h4 (.inr (.inl ⟨i, hbus⟩))
    exact ite_keeps (onBus_linkOk (by simp) (by simp [hst, LinkState.carries]) h) (replay_linkOk _ hst h)
  case h_2 => exact h

theorem verified_linkOk {s : State} (v : Byte) (h : s.LinkOk) : (s.verified v).LinkOk := by
  unfold verified
  split
  case h_1 i hbus =>
    obtain ⟨-, -, -, h4, -⟩ := id h
    have hst := configuring_of_carries h4 (.inr (.inr ⟨i, hbus⟩))
    exact ite_keeps (replay_linkOk _ hst h) (attemptFails_linkOk (attempts_le h))
  case h_2 => exact h

/-! ### Sampling and the arbiter -/

/-- In RUNNING the arbiter leaves the bus free only when nothing waits. -/
theorem serveBus_linkOk {s : State} (gap : Bool) (hst : s.link.state = .running)
    (h1 : s.link.startup = none) (h2 : s.link.recovery = none) (h3 : s.link.stall.isSome) (h8 : s.link.attempts ≤ 3) :
    (s.serveBus gap).LinkOk := by
  have hrun {b : Bus} (hb : LinkState.running.carries b = true) : s.link.state.carries b = true := by
    rw [hst]
    exact hb
  unfold serveBus
  split
  · exact ⟨by simp [emptied, h1, hst], by simp [emptied, h2, hst], by simpa [emptied, hst] using h3, hrun rfl,
      by simp [emptied, hst], by simp, by simp [emptied, hst], h8, by simp [emptied, hst]⟩
  case h_2 hd =>
    split
    · exact ⟨by simp [onBus, h1, hst], by simp [onBus, h2, hst], by simpa [onBus, hst] using h3, hrun rfl,
        by simp [onBus, hst], by simp [onBus], by simp [onBus, hst], h8, by simp [onBus, hst]⟩
    case h_2 hq =>
      exact ⟨by simp [onBus, h1, hst], by simp [onBus, h2, hst], by simpa [onBus, hst] using h3, hrun rfl,
        by simp [onBus, hst], fun _ => ⟨hq, hd⟩, by simp [onBus, hst], h8, by simp [onBus, hst]⟩

theorem running_timers {s : State} (hst : s.link.state = .running) (h : s.LinkOk) :
    s.link.startup = none ∧ s.link.recovery = none ∧ s.link.stall.isSome ∧ s.link.attempts ≤ 3 := by
  obtain ⟨h1, h2, h3, -, -, -, -, h8, -⟩ := h
  exact ⟨by simpa [hst] using h1, by simpa [hst] using h2, h3.mpr hst, h8⟩

theorem burstDone_linkOk {s : State} (bytes : Vector Byte 12) (h : s.LinkOk) : (s.burstDone bytes).LinkOk := by
  unfold burstDone
  split
  case h_1 t gap hbus =>
    obtain ⟨-, -, -, h4, -⟩ := id h
    have hst := running_of_carries h4 (.inl ⟨t, gap, hbus⟩)
    obtain ⟨h1, h2, h3, h8⟩ := running_timers hst h
    obtain ⟨hst', hup, hrec, hstall, hatt⟩ :=
      (sample_touches s (assemble s.link.settings.order bytes t s.link.first)).same .linkMode (by decide)
    dsimp only
    exact serveBus_linkOk _ (hst'.trans hst) (hup.trans h1) (hrec.trans h2) (by simpa only [hstall] using h3)
      (by simpa only [hatt] using h8)
  case h_2 => exact h

theorem passDone_linkOk {s : State} (v : Byte) (h : s.LinkOk) : (s.passDone v).LinkOk := by
  unfold passDone
  split
  case h_1 a hbus =>
    obtain ⟨-, -, -, h4, -⟩ := id h
    have hst := running_of_carries h4 (.inr ⟨a, hbus⟩)
    obtain ⟨h1, h2, h3, h8⟩ := running_timers hst h
    obtain ⟨hst', hup, hrec, hstall, hatt⟩ :=
      (complete_touches s a.ticket .ok [a.addr, if a.write then a.data else v]).same .linkMode (by decide)
    dsimp only
    exact serveBus_linkOk _ (hst'.trans hst) (hup.trans h1) (hrec.trans h2) (by simpa only [hstall] using h3)
      (by simpa only [hatt] using h8)
  case h_2 => exact h

theorem drdyRunning_linkOk {s : State} (hst : s.link.state = .running) (h : s.LinkOk) : s.drdyRunning.LinkOk := by
  obtain ⟨h1, h2, -, h8⟩ := running_timers hst h
  obtain ⟨-, -, -, h4, -⟩ := h
  have hc : LinkState.carries s.link.state (.sampleBurst s.tick false) = true := by simp [hst, LinkState.carries]
  unfold drdyRunning
  dsimp only
  split
  · exact ⟨by simp [onBus, h1, hst], by simp [onBus, h2, hst], by simp [onBus, hst], hc, by simp [onBus, hst],
      by simp [onBus], by simp [onBus, hst], h8, by simp [onBus, hst]⟩
  case isFalse hbus =>
    exact ⟨by simp [capture, h1, hst], by simp [capture, h2, hst], by simp [capture, hst], h4, by simp [capture, hst],
      fun hf => absurd hf hbus, by simp [capture, hst], h8, by simp [capture, hst]⟩

/-- Out of RUNNING a DRDY capture is taken and discarded. -/
theorem discarded_linkOk {s : State} (h : s.LinkOk) : ((s.capture .drdy s.tick).emptied .drdy).LinkOk := by
  obtain ⟨h1, h2, h3, h4, h5, h6, h7, h8, h9⟩ := h
  exact ⟨h1, h2, h3, h4, h5, fun hb => ⟨(h6 hb).1, rfl⟩, fun hr => ⟨(h7 hr).1, rfl⟩, h8, h9⟩

theorem joinAccess_linkOk {s : State} (a : Access) (hst : s.link.state = .running) (h : s.LinkOk) :
    (s.joinAccess a).LinkOk := by
  obtain ⟨h1, h2, h3, h8⟩ := running_timers hst h
  obtain ⟨-, -, -, h4, -⟩ := h
  have hc : LinkState.carries s.link.state (.passThrough a) = true := by simp [hst, LinkState.carries]
  unfold joinAccess
  dsimp only
  split
  · exact ⟨by simp [onBus, h1, hst], by simp [onBus, h2, hst], by simpa [onBus, hst] using h3, hc, by simp [onBus, hst],
      by simp [onBus], by simp [onBus, hst], h8, by simp [onBus, hst]⟩
  case isFalse hbus =>
    exact ⟨by simp [h1, hst], by simp [h2, hst], by simpa [hst] using h3, h4, by simp [hst],
      fun hf => absurd hf hbus, by simp [hst], h8, by simp [hst]⟩

/-! ### Abandonment, the rail and the supply -/

theorem abandon_queue_nil {s : State} (p : Port) (h : s.link.queue = []) : (s.abandon p).link.queue = [] := by
  cases p <;> unfold abandon <;> dsimp only <;> split
  all_goals try split
  all_goals simp [setPair, setPort, h]

theorem abandon_linkOk {s : State} (p : Port) (h : s.LinkOk) : (s.abandon p).LinkOk := by
  have hfoot := abandon_touches s p
  obtain ⟨hst, hup, hrec, hstall, hatt⟩ := hfoot.same .linkMode (by decide)
  have hbus : (s.abandon p).link.bus = s.link.bus := hfoot.same .bus (by decide)
  have hd : (s.abandon p).channels.drdy = s.channels.drdy := hfoot.same .drdy (by decide)
  obtain ⟨h1, h2, h3, h4, h5, h6, h7, h8, h9⟩ := h
  simp only [LinkOk, hst, hup, hrec, hstall, hatt, hbus, hd]
  exact ⟨h1, h2, h3, h4, h5, fun hb => ⟨abandon_queue_nil p (h6 hb).1, (h6 hb).2⟩,
    fun hr => ⟨abandon_queue_nil p (h7 hr).1, (h7 hr).2⟩, h8, h9⟩

theorem railGoesOff_linkOk {s : State} (st : Option Status) (h : s.LinkOk) : (s.railGoesOff st).LinkOk := by
  have hframes : (State.frameRailOff { s with
      supply := { s.supply with rail := .off, ramp := none }, charge := { s.charge with cls := 0 } }).LinkOk :=
    linkOk_reads.keep (frameRailOff_touches _) rfl h
  have heffects : s.railEffects.LinkOk := abandon_linkOk .a hframes
  refine ite_keeps h ?_
  split
  · exact linkOk_reads.keep (finish_touches ..) rfl heffects
  · exact heffects

theorem enterFinishing_linkOk {s : State} (h : s.LinkOk) : s.enterFinishing.LinkOk := by
  unfold enterFinishing
  dsimp only
  split
  · exact railGoesOff_linkOk _ h
  · exact h

theorem shutDown_linkOk {s : State} (cause : CutCause) (h : s.LinkOk) : (s.shutDown cause).LinkOk := by
  have hstop := linkStop_linkOk (railGoesOff_linkOk (some .wrongState) (linkOk_reads.keep (seal_touches s cause) rfl h))
  exact hstop

theorem round_linkOk {s : State} (r : RawMeas) (o : RoundOrder) (h : s.LinkOk) : (s.round r o).LinkOk := by
  refine round_keeps r o (linkOk_reads.keep (applyInput_touches _ _) rfl h) fun first changed w u hu => ?_
  cases w with
  | supply =>
    have hcut := shutDown_linkOk .hardCut hu
    exact judge_keeps hu (fun _ _ => ite_keeps hcut hcut) (fun _ _ => enterFinishing_linkOk hu) (fun _ _ _ => hu)
      fun _ => hu
  | input => exact ite_keeps (linkOk_reads.keep (chargeInput_touches u) rfl hu) hu
  | charge => exact linkOk_reads.keep (chargeAndGauge_touches ..) rfl hu

theorem softReset_linkOk (s : State) : s.softReset.LinkOk := by
  refine linkOk_reads.keep (chargeSoftReset_touches _) rfl ?_
  simp [LinkOk, motionSoftReset, Link.softReset, Channels.none, LinkState.carries]

end State

open State

theorem exec_keeps_link (c : Instr) (s t : State) (hs : s.LinkOk) (h : exec c s = .next t) : t.LinkOk := by
  have hfoot := exec_touches h
  obtain ⟨h1, h2, h3, h4, -, -, h7, -⟩ := id hs
  cases c <;> dsimp only [exec] at h
  case por v l =>
    cases h
    simp [LinkOk, por, reset, Link.atPor, Channels.none, LinkState.carries]
  case softReset p f =>
    exact doRequest_keeps linkOk_reads rfl (fun u hu => ite_fst_keeps hu (softReset_linkOk u)) hs h
  case startupExpiry =>
    refine event_keeps h hs fun _ hdue => startup_linkOk (h1.mp ?_) hs
    simp [(due_iff ..).mp hdue]
  case identityReadComplete v =>
    refine event_keeps h hs fun _ hb => ?_
    have hst := configuring_of_carries h4 (.inl (of_decide_eq_true hb))
    exact ite_keeps (replay_linkOk 0 hst hs) (attemptFails_linkOk (attempts_le hs))
  case bankWriteComplete => exact whenPowered_keeps h hs fun _ => bankWritten_linkOk hs
  case verifyReadComplete v => exact whenPowered_keeps h hs fun _ => verified_linkOk v hs
  case recoveryExpiry =>
    refine event_keeps h hs fun _ hdue => powerUp_linkOk (.inr (.inr (h2.mp ?_))) (attempts_le hs) h3 h4 h7
    simp [(due_iff ..).mp hdue]
  case stallExpiry => exact event_keeps h hs fun _ _ => attemptFails_linkOk (attempts_le hs)
  case drdyCapture =>
    refine whenPowered_keeps h hs fun _ => ?_
    split
    case isTrue hst => exact drdyRunning_linkOk hst hs
    case isFalse => exact discarded_linkOk hs
  case sampleBurstComplete b => exact whenPowered_keeps h hs fun _ => burstDone_linkOk b hs
  case passThroughComplete v => exact whenPowered_keeps h hs fun _ => passDone_linkOk v hs
  case imuStart p f =>
    refine doRequest_keeps linkOk_reads rfl (fun u hu => ?_) hs h
    unfold Machine.imuStart
    split
    case isTrue hst =>
      obtain ⟨-, -, h3, h4, -, -, h7, -⟩ := hu
      exact powerUp_linkOk (s := { u with link := { u.link with attempts := 0, gaps := 0 } })
        (hst.imp id .inl) (Nat.zero_le _) h3 h4 h7
    case isFalse => exact hu
  case imuStop p f => exact doRequest_keeps linkOk_reads rfl (fun u hu => linkStop_linkOk hu) hs h
  case imuAccess p f =>
    refine doRequest_keeps linkOk_reads rfl (fun u hu => ?_) hs h
    unfold Machine.imuAccess
    dsimp only
    refine ite_fst_keeps hu ?_
    split
    · exact hu
    case isFalse hst => exact ite_fst_keeps hu (joinAccess_linkOk _ (by simpa using hst) hu)
  case measurementRound r o => exact event_keeps h hs fun _ _ => round_linkOk r o hs
  case batteryLowDebounceExpiry => exact event_keeps h hs fun _ _ => enterFinishing_linkOk hs
  case holdExpiry => exact event_keeps h hs fun _ _ => shutDown_linkOk _ hs
  case rampTimeout => exact event_keeps h hs fun _ _ => railGoesOff_linkOk _ hs
  case railOff p f =>
    refine doRequest_keeps linkOk_reads rfl (fun u hu => ?_) hs h
    exact ite_fst_keeps hu (ite_fst_keeps hu
      (railGoesOff_linkOk _ (ite_keeps (linkOk_reads.keep (seal_touches u _) rfl hu) hu)))
  case generatorPeriodStart g => cases g <;> exact linkOk_reads.keep hfoot rfl hs
  case generatorWidthEnd g => cases g <;> exact linkOk_reads.keep hfoot rfl hs
  all_goals exact linkOk_reads.keep hfoot rfl hs

/-- Settles O56: the commands of the link by its states, and what takes the link down (IMU_STOP, a failed attempt, a
shutdown, SOFT_RESET) or shortens its queue (the abandonment of Port A's slot). -/
theorem stepKeepsLink : Obligations.StepKeepsLink :=
  fun _ _ => step_keeps_of_exec linkOk_reads rfl exec_keeps_link

end Sys2Proof.Machine

/-! # Every step keeps the collections and counts within their bounds

The integrator's, the Frame Tracker's, the link's and the charger's bounds are kept separately; a sample and a round pass
through states in which one of them stands at its end. -/

namespace Sys2Proof.Machine

/-! ### The integrator (R46, R48, R50, R51, R55) -/

/-- The integrator's bounds in the course of a sample: a watch may have counted to its end. -/
@[reducible] def Motion.CountsTo (bound : Nat) (m : Motion) : Prop :=
  m.history.length ≤ 64 ∧ m.stillCount < 4096 ∧ (∀ e ∈ m.episode, e.quiet < 64) ∧ (∀ w ∈ m.watch, w.run ≤ bound)
  ∧ (m.episode.isSome → m.watch = none)

namespace Motion

theorem stillWindow_count {m : Motion} (still : Bool) (u : Axes Int) (h : m.stillCount < 4096) :
    (m.stillWindow still u).stillCount < 4096 := by
  unfold stillWindow
  split
  · simp [emptyStill]
  · dsimp only
    split
    · simp [emptyStill]
    · show m.stillCount + 1 < 4096
      omega

theorem started_countsTo {b : Nat} {m : Motion} (restart : Bool) (tick : Tick) (h : m.CountsTo b) :
    (m.started restart tick).CountsTo b := by
  obtain ⟨hh, hs, he, hw, hx⟩ := h
  cases restart with
  | false => exact ⟨hh, hs, he, hw, hx⟩
  | true =>
    refine ⟨hh, by simp [started, restarted, emptyStill], he, ?_, ?_⟩
    · intro w hwm
      obtain ⟨w', -, rfl⟩ := Option.map_eq_some_iff.mp hwm
      exact Nat.zero_le _
    · intro hep
      simp [started, restarted, emptyStill, hx hep]

/-- The shock evaluation of a sample: the bounds, and what an episode that ends at it leaves. -/
theorem shockEval_countsTo {b : Nat} {m : Motion} (tick : Tick) (k : Nat) (band : Fin 4) (h : m.CountsTo b) :
    (m.shockEval tick k band).1.CountsTo b
    ∧ ((m.shockEval tick k band).2.isSome →
      (m.shockEval tick k band).1.watch = none ∧ (m.shockEval tick k band).1.episode = none) := by
  obtain ⟨hh, hs, he, hw, hx⟩ := id h
  unfold shockEval
  split
  case h_1 hnone =>
    split
    · exact ⟨⟨hh, hs, by simp, by simp, by simp⟩, by simp⟩
    · exact ⟨h, by simp⟩
  case h_2 e hsome =>
    have hwatch : m.watch = none := hx (by simp [hsome])
    have hquiet : e.quiet < 64 := he e hsome
    generalize hq : (if m.settings.shock ≤ k then 0 else e.quiet + 1) = q
    have hq64 : q ≤ 64 := by
      subst hq
      split <;> omega
    dsimp only
    split
    · exact ⟨⟨hh, hs, by simp, hw, by simp⟩, by simp [hwatch]⟩
    case isFalse hne =>
      refine ⟨⟨hh, hs, ?_, hw, fun _ => hwatch⟩, by simp⟩
      intro x hxm
      cases hxm
      show q < 64
      omega

theorem appendEntry_length {l : List HistEntry} (e : HistEntry) (h : l.length ≤ 64) : (appendEntry l e).length ≤ 64 := by
  unfold appendEntry
  split <;> simp only [List.length_append, List.length_tail, List.length_singleton] <;> omega

theorem step_run_le {still : Bool} {w w' : Watch} (h : w.step still = some w') : w'.run ≤ w.run + 1 := by
  unfold Watch.step at h
  split at h
  · cases h
    exact le_rfl
  · split at h
    · cases h
    · cases h
      exact Nat.zero_le _

/-- A sample raises a watch by at most one; an episode that ends at it leaves neither a watch nor an episode. -/
theorem absorb_countsTo {b : Nat} {m : Motion} (x : Sample) (pImu : Nat) (band : Fin 4) (h : m.CountsTo b) :
    (m.absorb x pImu band).1.CountsTo (b + 1)
    ∧ ((m.absorb x pImu band).2.isSome →
      (m.absorb x pImu band).1.watch = none ∧ (m.absorb x pImu band).1.episode = none) := by
  obtain ⟨sh, ss, se, sw, sx⟩ := started_countsTo (m.interval pImu x).2 x.tick h
  have hwindow : ((m.started (m.interval pImu x).2 x.tick).stillWindow (m.still x) (m.rates x)).CountsTo b := by
    refine ⟨?_, stillWindow_count _ _ ss, ?_, ?_, ?_⟩ <;> simp only [stillWindow_history, stillWindow_episode,
      stillWindow_watch] <;> assumption
  obtain ⟨⟨hh, hs, he, hw, hx⟩, hend⟩ := shockEval_countsTo x.tick (m.strength x) band hwindow
  change (m.judged x pImu band).1.history.length ≤ 64 at hh
  change (m.judged x pImu band).1.stillCount < 4096 at hs
  change ∀ e ∈ (m.judged x pImu band).1.episode, e.quiet < 64 at he
  change ∀ w ∈ (m.judged x pImu band).1.watch, w.run ≤ b at hw
  change (m.judged x pImu band).1.episode.isSome → (m.judged x pImu band).1.watch = none at hx
  change (m.judged x pImu band).2.isSome →
    (m.judged x pImu band).1.watch = none ∧ (m.judged x pImu band).1.episode = none at hend
  rw [absorb_eq]
  refine ⟨⟨appendEntry_length _ hh, hs, he, ?_, ?_⟩, ?_⟩
  · intro w hwm
    obtain ⟨w', hw', hstep⟩ := Option.bind_eq_some_iff.mp hwm
    exact (step_run_le hstep).trans (Nat.succ_le_succ (hw w' hw'))
  · intro hep
    simp [hx hep]
  · intro hended
    obtain ⟨h1, h2⟩ := hend hended
    exact ⟨by simp [h1], h2⟩

end Motion

namespace State

/-- R46, R48, R50, R51, R55: the integrator's bounds. -/
@[reducible] def MotionBounded (s : State) : Prop := s.motion.CountsTo 2047

theorem motionBounded_reads : Reads [.samples] MotionBounded := by
  intro s t h hs
  simp only [List.forall_mem_cons, Piece.Same] at h
  obtain ⟨⟨hh, hs', he, hw⟩, -⟩ := h
  simpa only [MotionBounded, Motion.CountsTo, hh, hs', he, hw] using hs

theorem episodeEnd_motionBounded {s : State} (e : Episode) (hw : s.motion.watch = none) (he : s.motion.episode = none)
    (h : s.motion.CountsTo 2048) : (s.episodeEnd e).MotionBounded := by
  have hb : s.MotionBounded := by
    obtain ⟨hh, hs, -, -, -⟩ := h
    exact ⟨hh, hs, by simp [he], by simp [hw], by simp [he]⟩
  obtain ⟨hh, hs, hq, -, -⟩ := motionBounded_reads.keep (shockEvent_touches s e) rfl hb
  have hep : (s.shockEvent e).motion.episode = none :=
    ((shockEvent_touches s e).same .samples (by decide)).2.2.1.trans he
  refine ite_keeps ⟨hh, hs, hq, ?_, ?_⟩ (motionBounded_reads.keep (shockEvent_touches s e) rfl hb)
  · intro w hwm
    cases hwm
    exact Nat.zero_le _
  · simp [beginWatch, hep]

theorem crashCheck_motionBounded {s : State} (h : s.motion.CountsTo 2048) : s.crashCheck.MotionBounded := by
  obtain ⟨hh, hs, he, hw, hx⟩ := h
  unfold crashCheck
  cases hwatch : s.motion.watch with
  | none => exact ⟨hh, hs, he, by simp [hwatch], fun _ => hwatch⟩
  | some w =>
    dsimp only
    split
    · have hended : State.MotionBounded { s with motion := { s.motion with watch := none } } :=
        ⟨hh, hs, he, by simp, by simp⟩
      have hprotected := motionBounded_reads.keep (crashProtect_touches _ w.start) rfl hended
      exact motionBounded_reads.keep (raise_touches _ .crash) rfl
        (motionBounded_reads.keep (crashMark_touches _ _ w.start w.peak) rfl hprotected)
    case isFalse hrun =>
      refine ⟨hh, hs, he, ?_, hx⟩
      intro w' hw'
      rw [hwatch] at hw'
      cases hw'
      omega

theorem sample_motionBounded {s : State} (x : Sample) (h : s.MotionBounded) : (s.sample x).MotionBounded := by
  obtain ⟨hcounts, hend⟩ := Motion.absorb_countsTo x s.link.settings.pImu s.wheel.band h
  have hfoot := examine_touches { s with motion := (s.motion.absorb x s.link.settings.pImu s.wheel.band).1 }
  obtain ⟨hh, hs, he, hw⟩ := hfoot.same .samples (by decide)
  have hcounts' : (State.examine { s with
      motion := (s.motion.absorb x s.link.settings.pImu s.wheel.band).1 }).motion.CountsTo 2048 := by
    simpa only [Motion.CountsTo, hh, hs, he, hw] using hcounts
  rw [sample_eq]
  split
  case h_1 e hsome =>
    obtain ⟨hwn, hen⟩ := hend (by simp [hsome])
    exact episodeEnd_motionBounded e (hw.trans hwn) (he.trans hen) hcounts'
  case h_2 => exact crashCheck_motionBounded hcounts'

theorem burstDone_motionBounded {s : State} (bytes : Vector Byte 12) (h : s.MotionBounded) :
    (s.burstDone bytes).MotionBounded := by
  unfold burstDone
  split
  · refine motionBounded_reads.keep (serveBus_touches _ _) rfl ?_
    exact sample_motionBounded _ h
  · exact h

theorem motionStop_motionBounded {s : State} (h : s.MotionBounded) : s.motionStop.MotionBounded := by
  obtain ⟨hh, -, -, -, -⟩ := h
  have hstop : State.MotionBounded { s with motion := { s.motion.emptyStill with episode := none, watch := none } } :=
    ⟨hh, by simp [Motion.emptyStill], by simp, by simp, by simp⟩
  unfold motionStop
  dsimp only
  split
  · exact motionBounded_reads.keep (shockEvent_touches ..) rfl hstop
  · exact hstop

theorem linkDown_motionBounded {s : State} (x : LinkState) (h : s.MotionBounded) : (s.linkDown x).MotionBounded := by
  have hdrop := motionBounded_reads.keep (dropAll_touches s.link.queue s) rfl h
  unfold linkDown
  dsimp only
  split
  · exact motionStop_motionBounded hdrop
  · exact hdrop

theorem linkStop_motionBounded {s : State} (h : s.MotionBounded) : s.linkStop.MotionBounded :=
  ite_keeps h (linkDown_motionBounded _ h)

theorem attemptFails_motionBounded {s : State} (h : s.MotionBounded) : s.attemptFails.MotionBounded := by
  have hrec := linkDown_motionBounded .recovering h
  exact ite_keeps hrec (motionBounded_reads.keep (raise_touches _ _) rfl (linkDown_motionBounded _ h))

theorem replay_motionBounded {s : State} (i : Nat) (h : s.MotionBounded) : (s.replay i).MotionBounded :=
  motionBounded_reads.keep (replay_touches s i) rfl h

theorem shutDown_motionBounded {s : State} (cause : CutCause) (h : s.MotionBounded) :
    (s.shutDown cause).MotionBounded := by
  have hsealed := motionBounded_reads.keep (seal_touches s cause) rfl h
  have hstop := linkStop_motionBounded (motionBounded_reads.keep (railGoesOff_touches _ (some .wrongState)) rfl hsealed)
  exact hstop

theorem round_motionBounded {s : State} (r : RawMeas) (o : RoundOrder) (h : s.MotionBounded) :
    (s.round r o).MotionBounded := by
  refine round_keeps r o (motionBounded_reads.keep (applyInput_touches _ _) rfl h) fun first changed w u hu => ?_
  cases w with
  | supply =>
    have hcut := shutDown_motionBounded .hardCut hu
    exact judge_keeps hu (fun _ _ => ite_keeps hcut hcut)
      (fun _ _ => motionBounded_reads.keep (enterFinishing_touches u) rfl hu) (fun _ _ _ => hu) fun _ => hu
  | input => exact ite_keeps (motionBounded_reads.keep (chargeInput_touches u) rfl hu) hu
  | charge => exact motionBounded_reads.keep (chargeAndGauge_touches ..) rfl hu

theorem atReset_countsTo (settings : MotionSettings) (limit : Axes Nat) :
    (Motion.atReset settings limit).CountsTo 2047 := by
  simp [Motion.CountsTo, Motion.atReset]

end State

open State

theorem exec_keeps_motionBounded (c : Instr) (s t : State) (hs : s.MotionBounded) (h : exec c s = .next t) :
    t.MotionBounded := by
  have hfoot := exec_touches h
  cases c <;> dsimp only [exec] at h
  case por v l => cases h; exact atReset_countsTo ..
  case softReset p f =>
    refine doRequest_keeps motionBounded_reads rfl (fun u hu => ite_fst_keeps hu ?_) hs h
    exact motionBounded_reads.keep (chargeSoftReset_touches _) rfl (atReset_countsTo ..)
  case identityReadComplete v =>
    exact event_keeps h hs fun _ _ => ite_keeps (replay_motionBounded 0 hs) (attemptFails_motionBounded hs)
  case verifyReadComplete v =>
    refine whenPowered_keeps h hs fun _ => ?_
    unfold verified
    split
    · exact ite_keeps (replay_motionBounded _ hs) (attemptFails_motionBounded hs)
    · exact hs
  case stallExpiry => exact event_keeps h hs fun _ _ => attemptFails_motionBounded hs
  case sampleBurstComplete b => exact whenPowered_keeps h hs fun _ => burstDone_motionBounded b hs
  case watchTimerExpiry =>
    refine event_keeps h hs fun _ _ => ?_
    obtain ⟨hh, hs', he, hw, hx⟩ := hs
    refine ⟨hh, hs', he, ?_, fun hep => by simp [hx hep]⟩
    intro w hwm
    obtain ⟨w', hw', hexp⟩ := Option.bind_eq_some_iff.mp hwm
    unfold Watch.expire at hexp
    split at hexp
    · cases hexp
    · cases hexp
      exact hw w' hw'
  case imuStop p f => exact doRequest_keeps motionBounded_reads rfl (fun u hu => linkStop_motionBounded hu) hs h
  case biasSet p f =>
    refine doRequest_keeps motionBounded_reads rfl (fun u hu => ?_) hs h
    obtain ⟨hh, -, he, hw, hx⟩ := hu
    exact ⟨hh, by simp [Machine.biasSet, Motion.emptyStill], he, hw, hx⟩
  case motionSet p f =>
    refine doRequest_keeps motionBounded_reads rfl (fun u hu => ?_) hs h
    unfold Machine.motionSet
    split
    · obtain ⟨hh, -, he, hw, hx⟩ := hu
      exact ⟨hh, by simp [Motion.emptyStill], he, hw, hx⟩
    · exact hu
  case measurementRound r o => exact event_keeps h hs fun _ _ => round_motionBounded r o hs
  case holdExpiry => exact event_keeps h hs fun _ _ => shutDown_motionBounded _ hs
  case generatorPeriodStart g => cases g <;> exact motionBounded_reads.keep hfoot rfl hs
  case generatorWidthEnd g => cases g <;> exact motionBounded_reads.keep hfoot rfl hs
  all_goals exact motionBounded_reads.keep hfoot rfl hs

end Sys2Proof.Machine

namespace Sys2Proof.Machine
namespace State

/-! ### The pending bands and the correction queue (R61, R68, R75) -/

/-- R61, R68, R75: the Frame Tracker's bounds. -/
@[reducible] def FrameBounded (s : State) : Prop :=
  s.frames.bands.length ≤ 64 ∧ s.frames.queue.length ≤ 64 ∧ s.frames.params.bands ≤ 16

theorem frameBounded_reads : Reads [.tracker, .bands, .corrections] FrameBounded := by
  intro s t h hs
  simp only [List.forall_mem_cons, Piece.Same] at h
  obtain ⟨⟨-, hp, -, -⟩, hb, hq, -⟩ := h
  simpa only [FrameBounded, hp, hb, hq] using hs

theorem joinQueue_length {q : List CorrRec} (r : CorrRec) (h : q.length ≤ 64) : (joinQueue q r).length ≤ 64 := by
  have hmark (l : List CorrRec) : (markDropped l).length = l.length := by cases l <;> rfl
  unfold joinQueue
  split <;> simp only [List.length_append, hmark, List.length_tail, List.length_singleton] <;> omega

theorem deliver_queue (s : State) (r : CorrRec) : (s.deliver r).frames.queue = joinQueue s.frames.queue r := by
  have hcount (u : State) : (u.countBand r).frames.queue = u.frames.queue :=
    (countBand_touches u r).same .corrections (by decide)
  unfold deliver
  dsimp only
  rw [hcount]
  split <;> rfl

theorem formBand_bands (s : State) (b : Band) (x : Found) :
    (s.formBand b x).frames.bands = s.frames.bands.tail :=
  (deliver_touches _ _).same .bands (by decide)

theorem formBand_params (s : State) (b : Band) (x : Found) : (s.formBand b x).frames.params = s.frames.params :=
  ((formBand_touches s b x).same .tracker (by decide)).2.1

theorem formBand_frameBounded {s : State} (b : Band) (x : Found) (h : s.FrameBounded) :
    (s.formBand b x).FrameBounded := by
  obtain ⟨hb, hq, hp⟩ := h
  refine ⟨?_, ?_, ?_⟩
  · rw [formBand_bands, List.length_tail]
    omega
  · rw [formBand, deliver_queue]
    exact joinQueue_length _ hq
  · rw [formBand_params]
    exact hp

theorem examineN_frameBounded (n : Nat) {s : State} (h : s.FrameBounded) : (s.examineN n).FrameBounded := by
  induction n generalizing s with
  | zero => exact h
  | succ n ih =>
    unfold examineN
    split
    · exact h
    · split
      · exact ih (formBand_frameBounded _ _ h)
      · exact h

theorem examine_frameBounded {s : State} (h : s.FrameBounded) : s.examine.FrameBounded := examineN_frameBounded _ h

theorem forceOldest_frameBounded {s : State} (h : s.FrameBounded) : s.forceOldest.FrameBounded := by
  unfold forceOldest
  split
  · exact h
  · exact formBand_frameBounded _ _ h

theorem force_frameBounded (k : Nat) {s : State} (h : s.FrameBounded) : (s.force k).FrameBounded := by
  induction k generalizing s with
  | zero => exact h
  | succ k ih => exact ih (forceOldest_frameBounded h)

theorem forceOldest_bands (s : State) : s.forceOldest.frames.bands = s.frames.bands.tail := by
  unfold forceOldest
  split
  case h_1 hnil => simp [hnil]
  case h_2 => rw [formBand_bands]

/-- R68: forcing takes the oldest bands. -/
theorem force_bands (k : Nat) (s : State) : (s.force k).frames.bands = s.frames.bands.drop k := by
  induction k generalizing s with
  | zero => rfl
  | succ k ih => rw [force, ih, forceOldest_bands, List.drop_tail]

theorem placeBands_frameBounded {s : State} (t : Tick) (h : s.FrameBounded) : (s.placeBands t).FrameBounded := by
  obtain ⟨-, hq, hp⟩ := force_frameBounded (s.frames.bands.length + s.frames.params.bands - 64) h
  obtain ⟨hb, -, hp0⟩ := h
  refine examine_frameBounded ⟨?_, hq, hp⟩
  simp only [force_bands, List.length_append, List.length_drop, List.length_map, List.length_range]
  omega

theorem strobe_frameBounded {s : State} (h : s.FrameBounded) : s.strobe.FrameBounded := by
  unfold strobe
  split
  · split
    · exact placeBands_frameBounded _ h
    · exact h
  · exact h

theorem closeWindow_frameBounded {s : State} (h : s.FrameBounded) : s.closeWindow.FrameBounded := by
  obtain ⟨-, hp, -, hb, -, -⟩ := closeWindow_frames s
  have hq : s.closeWindow.frames.queue = s.frames.queue := (closeWindow_touches s).same .corrections (by decide)
  simpa only [FrameBounded, hp, hb, hq] using h

theorem frameTrigger_frameBounded {s : State} (h : s.FrameBounded) : s.frameTrigger.FrameBounded :=
  closeWindow_frameBounded h

theorem endStrobe_frameBounded {s : State} (h : s.FrameBounded) : s.endStrobe.FrameBounded := by
  unfold endStrobe
  split
  · split
    · exact ite_keeps h h
    · exact h
  · exact h

theorem bands_le_of_frameParamsOk {b : List Byte} (h : frameParamsOk b = true) : field b 8 1 ≤ 16 := by
  simp only [frameParamsOk, Bool.and_eq_true, List.contains_iff_mem, List.mem_cons, List.not_mem_nil, or_false] at h
  omega

theorem frameStart_frameBounded {s : State} {b : List Byte} (hb : frameParamsOk b = true) (h : s.FrameBounded) :
    (s.frameStart (readFrameParams b)).FrameBounded := by
  obtain ⟨h1, h2, -⟩ := h
  exact frameTrigger_frameBounded ⟨h1, h2, bands_le_of_frameParamsOk hb⟩

theorem frameStop_frameBounded {s : State} (h : s.FrameBounded) : s.frameStop.FrameBounded := by
  obtain ⟨-, h2, h3⟩ := id h
  exact ite_keeps h ⟨Nat.zero_le _, h2, h3⟩

theorem railGoesOff_frameBounded {s : State} (st : Option Status) (h : s.FrameBounded) :
    (s.railGoesOff st).FrameBounded := by
  have hstop : (State.frameStop { s with supply := { s.supply with rail := .off, ramp := none }
                                         charge := { s.charge with cls := 0 } }).FrameBounded :=
    frameStop_frameBounded h
  obtain ⟨hb, -, hp⟩ := hstop
  have heffects : s.railEffects.FrameBounded :=
    frameBounded_reads.keep (abandon_touches _ .a) rfl ⟨hb, Nat.zero_le _, hp⟩
  refine ite_keeps h ?_
  split
  · exact frameBounded_reads.keep (finish_touches ..) rfl heffects
  · exact heffects

theorem enterFinishing_frameBounded {s : State} (h : s.FrameBounded) : s.enterFinishing.FrameBounded := by
  unfold enterFinishing
  dsimp only
  split
  · exact railGoesOff_frameBounded _ h
  · exact h

theorem shutDown_frameBounded {s : State} (cause : CutCause) (h : s.FrameBounded) :
    (s.shutDown cause).FrameBounded := by
  have hrail := railGoesOff_frameBounded (some .wrongState) (frameBounded_reads.keep (seal_touches s cause) rfl h)
  have hstop := frameBounded_reads.keep (linkStop_touches _) rfl hrail
  exact hstop

theorem round_frameBounded {s : State} (r : RawMeas) (o : RoundOrder) (h : s.FrameBounded) :
    (s.round r o).FrameBounded := by
  refine round_keeps r o (frameBounded_reads.keep (applyInput_touches _ _) rfl h) fun first changed w u hu => ?_
  cases w with
  | supply =>
    have hcut := shutDown_frameBounded .hardCut hu
    exact judge_keeps hu (fun _ _ => ite_keeps hcut hcut) (fun _ _ => enterFinishing_frameBounded hu)
      (fun _ _ _ => hu) fun _ => hu
  | input => exact ite_keeps (frameBounded_reads.keep (chargeInput_touches u) rfl hu) hu
  | charge => exact frameBounded_reads.keep (chargeAndGauge_touches ..) rfl hu

theorem burstDone_frameBounded {s : State} (bytes : Vector Byte 12) (h : s.FrameBounded) :
    (s.burstDone bytes).FrameBounded := by
  have hsample (x : Sample) : (s.sample x).FrameBounded := by
    have hexamined : (State.examine { s with motion :=
        (s.motion.absorb x s.link.settings.pImu s.wheel.band).1 }).FrameBounded := examine_frameBounded h
    rw [sample_eq]
    split
    · exact frameBounded_reads.keep (episodeEnd_touches ..) rfl hexamined
    · exact frameBounded_reads.keep (crashCheck_touches _) rfl hexamined
  unfold burstDone
  split
  · refine frameBounded_reads.keep (serveBus_touches _ _) rfl ?_
    exact hsample _
  · exact h

theorem bandDeadline_frameBounded {s : State} (n : FrameNo) (i : Nat) (h : s.FrameBounded) :
    (State.examine { s with frames := { s.frames with
      bands := s.frames.bands.map (Band.pass n i s.tick) } }).FrameBounded := by
  obtain ⟨hb, hq, hp⟩ := h
  exact examine_frameBounded ⟨by simpa using hb, hq, hp⟩

end State

open State

theorem exec_keeps_frameBounded (c : Instr) (s t : State) (hs : s.FrameBounded) (h : exec c s = .next t) :
    t.FrameBounded := by
  have hfoot := exec_touches h
  cases c <;> dsimp only [exec] at h
  case por v l =>
    cases h
    simp [FrameBounded, por, reset, Frames.atReset, FrameParams.none]
  case softReset p f =>
    refine doRequest_keeps frameBounded_reads rfl (fun u hu => ite_fst_keeps hu ?_) hs h
    refine frameBounded_reads.keep (chargeSoftReset_touches _) rfl ?_
    simp [FrameBounded, motionSoftReset, Frames.atReset, FrameParams.none]
  case generatorPeriodStart g =>
    cases g with
    | ftrig => exact event_keeps h hs fun _ _ => frameTrigger_frameBounded (s := s.setGen .ftrig _) hs
    | iset => exact frameBounded_reads.keep hfoot rfl hs
  case generatorWidthEnd g => cases g <;> exact frameBounded_reads.keep hfoot rfl hs
  case sampleBurstComplete b => exact whenPowered_keeps h hs fun _ => burstDone_frameBounded b hs
  case windowExpiry => exact event_keeps h hs fun _ _ => closeWindow_frameBounded hs
  case fstCapture =>
    exact whenPowered_keeps h hs fun _ => strobe_frameBounded (s := (s.capture .fst s.tick).emptied .fst) hs
  case fenCapture =>
    exact whenPowered_keeps h hs fun _ => endStrobe_frameBounded (s := (s.capture .fen s.tick).emptied .fen) hs
  case bandDeadlineExpiry n i => exact event_keeps h hs fun _ _ => bandDeadline_frameBounded n i hs
  case frameStart p f =>
    refine doRequest_keeps frameBounded_reads rfl (fun u hu => ?_) hs h
    unfold Machine.frameStart
    split
    · exact hu
    case isFalse hok => exact ite_fst_keeps hu (frameStart_frameBounded (by simpa using hok) hu)
  case frameStop p f => exact doRequest_keeps frameBounded_reads rfl (fun u hu => frameStop_frameBounded hu) hs h
  case corrRead p f =>
    refine doRequest_keeps frameBounded_reads rfl (fun u hu => ?_) hs h
    obtain ⟨hb, hq, hp⟩ := id hu
    refine ⟨hb, ?_, hp⟩
    simp only [Machine.corrRead, List.length_drop]
    omega
  case measurementRound r o => exact event_keeps h hs fun _ _ => round_frameBounded r o hs
  case batteryLowDebounceExpiry => exact event_keeps h hs fun _ _ => enterFinishing_frameBounded hs
  case holdExpiry => exact event_keeps h hs fun _ _ => shutDown_frameBounded _ hs
  case rampTimeout => exact event_keeps h hs fun _ _ => railGoesOff_frameBounded _ hs
  case railOff p f =>
    refine doRequest_keeps frameBounded_reads rfl (fun u hu => ?_) hs h
    exact ite_fst_keeps hu (ite_fst_keeps hu
      (railGoesOff_frameBounded _ (ite_keeps (frameBounded_reads.keep (seal_touches u _) rfl hu) hu)))
  all_goals exact frameBounded_reads.keep hfoot rfl hs

end Sys2Proof.Machine

namespace Sys2Proof.Machine
namespace State

/-! ### The gap count (R32) -/

/-- R32: the gap count saturates. -/
@[reducible] def GapsBounded (s : State) : Prop := s.link.gaps ≤ 65535

theorem gapsBounded_reads : Reads [.gaps] GapsBounded := by
  intro s t h hs
  simp only [List.forall_mem_cons, Piece.Same] at h
  obtain ⟨hg, -⟩ := h
  simpa only [GapsBounded, hg] using hs

theorem count16_le {up : Bool} {n : Nat} (h : n ≤ 65535) : count16 up n ≤ 65535 := by
  unfold count16
  split <;> omega

theorem burstDone_gapsBounded {s : State} (bytes : Vector Byte 12) (h : s.GapsBounded) :
    (s.burstDone bytes).GapsBounded := by
  unfold burstDone
  split
  case h_1 t gap _ =>
    have hsample := gapsBounded_reads.keep (sample_touches s (assemble s.link.settings.order bytes t s.link.first)) rfl h
    refine gapsBounded_reads.keep (serveBus_touches _ _) rfl ?_
    exact count16_le hsample
  case h_2 => exact h

end State

open State in
theorem exec_keeps_gapsBounded (c : Instr) (s t : State) (hs : s.GapsBounded) (h : exec c s = .next t) :
    t.GapsBounded := by
  have hfoot := exec_touches h
  cases c <;> dsimp only [exec] at h
  case por v l => cases h; exact Nat.zero_le _
  case softReset p f =>
    refine doRequest_keeps gapsBounded_reads rfl (fun u hu => ite_fst_keeps hu ?_) hs h
    exact gapsBounded_reads.keep (chargeSoftReset_touches _) rfl (Nat.zero_le _)
  case sampleBurstComplete b => exact whenPowered_keeps h hs fun _ => burstDone_gapsBounded b hs
  case imuStart p f =>
    refine doRequest_keeps gapsBounded_reads rfl (fun u hu => ?_) hs h
    exact ite_fst_keeps (Nat.zero_le _) hu
  case generatorPeriodStart g => cases g <;> exact gapsBounded_reads.keep hfoot rfl hs
  case generatorWidthEnd g => cases g <;> exact gapsBounded_reads.keep hfoot rfl hs
  all_goals exact gapsBounded_reads.keep hfoot rfl hs

namespace State

/-! ### The termination and safety counts (R172, R173) -/

/-- R172, R173: the charger's counts. -/
@[reducible] def CountsOk (s : State) : Prop :=
  s.charge.term ≤ 64 ∧ (s.charge.state = .cv → s.charge.term < 64) ∧ s.charge.safety ≤ 58982400

theorem countsOk_reads : Reads [.charger] CountsOk := by
  intro s t h hs
  simp only [List.forall_mem_cons, Piece.Same] at h
  obtain ⟨⟨-, hst, -, -, hsafe, hterm, -⟩, -⟩ := h
  simpa only [CountsOk, hst, hsafe, hterm] using hs

/-- A change into CV starts its count again; no other change of state needs the count to be below its end. -/
theorem toCharge_countsOk {s : State} {new : ChargeState} (hterm : s.charge.term ≤ 64) (hsafe : s.charge.safety ≤ 58982400)
    (hcv : s.charge.state = .cv → new ≠ .cv ∨ s.charge.term < 64) : (s.toCharge new).CountsOk := by
  by_cases hsame : s.charge.state = new
  · subst hsame
    rw [toCharge_same]
    exact ⟨hterm, fun hst => (hcv hst).resolve_left (by simp [hst]), hsafe⟩
  · simp only [CountsOk, toCharge_charge, if_neg hsame, Charge.enter]
    refine ⟨ite_keeps (P := (· ≤ 64)) (Nat.zero_le _) hterm, fun hn => ?_,
      ite_keeps (P := (· ≤ 58982400)) (Nat.zero_le _) hsafe⟩
    rw [if_pos hn]
    decide

theorem CountsOk.toCharge {s : State} (new : ChargeState) (h : s.CountsOk) : (s.toCharge new).CountsOk := by
  obtain ⟨hterm, hcv, hsafe⟩ := h
  exact toCharge_countsOk hterm hsafe fun hst => .inr (hcv hst)

/-- The round's change of charge state: the count of CV may have reached its end, and then the round leaves CV. -/
theorem changeCharge_countsOk {s : State} (m : MeasTable) (hterm : s.charge.term ≤ 64)
    (hsafe : s.charge.safety ≤ 58982400) : (s.changeCharge m).CountsOk := by
  refine changeCharge_keeps (fun hcv => ⟨hterm, hcv, hsafe⟩) ?_ ?_ ?_ ?_ ?_ ?_
  · exact fun c _ _ _ => toCharge_countsOk hterm hsafe (by simp)
  · exact fun q hst => ⟨hterm, by simp [hst], hsafe⟩
  · exact fun r _ _ _ _ => toCharge_countsOk hterm hsafe (by simp)
  · exact fun r hst _ => toCharge_countsOk hterm hsafe (by simp [hst])
  · exact fun new _ hst => toCharge_countsOk hterm hsafe (by rcases hst with h | h | h <;> simp [h])
  · exact fun _ => toCharge_countsOk hterm hsafe (by simp)

theorem counted_counts {c : Charge} (i : Int) (hterm : c.term ≤ 64) (hcv : c.state = .cv → c.term < 64)
    (hsafe : c.safety ≤ 58982400) : (c.counted i).term ≤ 64 ∧ (c.counted i).safety ≤ 58982400 := by
  unfold Charge.counted
  split
  case isTrue hst =>
    refine ⟨?_, hsafe⟩
    have hlt := hcv hst
    simp only [Charge.termCount]
    split
    · exact Nat.zero_le _
    · split <;> omega
  case isFalse => exact ⟨hterm, hsafe⟩

theorem thermal_counts (c : Charge) (code : Nat) : (c.thermal code).term = c.term
    ∧ (c.thermal code).state = c.state ∧ (c.thermal code).safety = c.safety := by
  unfold Charge.thermal
  split <;> exact ⟨rfl, rfl, rfl⟩

theorem chargeRound_countsOk {s : State} (m : MeasTable) (h : s.CountsOk) : (s.chargeRound m).CountsOk := by
  obtain ⟨hterm, hcv, hsafe⟩ := h
  obtain ⟨ht, hst, hs⟩ := thermal_counts s.charge m.tbat
  obtain ⟨hterm', hsafe'⟩ := counted_counts (c := s.charge.thermal m.tbat) m.ibat (by omega)
    (by simpa only [ht, hst] using hcv) (by omega)
  obtain ⟨gt, gcv, gs⟩ : (s.changedInRound m).CountsOk := changeCharge_countsOk m hterm' hsafe'
  simp only [CountsOk, chargeRound_charge, Charge.withTarget_term, Charge.withTarget_state]
  refine ⟨gt, gcv, ?_⟩
  unfold Charge.nextSafety
  split
  · exact Nat.min_le_left ..
  · exact gs

theorem chargeInput_countsOk {s : State} (h : s.CountsOk) : s.chargeInput.CountsOk := by
  unfold chargeInput
  split
  · exact h.toCharge _
  · exact ite_keeps (h.toCharge _) h

theorem round_countsOk {s : State} (r : RawMeas) (o : RoundOrder) (h : s.CountsOk) : (s.round r o).CountsOk := by
  refine round_keeps r o (countsOk_reads.keep (applyInput_touches _ _) rfl h) fun first changed w u hu => ?_
  cases w with
  | supply => exact countsOk_reads.keep (judge_touches ..) rfl hu
  | input => exact ite_keeps (chargeInput_countsOk hu) hu
  | charge => exact ite_keeps (chargeRound_countsOk _ hu) (chargeRound_countsOk _ hu)

end State

open State

theorem exec_keeps_countsOk (c : Instr) (s t : State) (hs : s.CountsOk) (h : exec c s = .next t) : t.CountsOk := by
  have hfoot := exec_touches h
  cases c <;> dsimp only [exec] at h
  case por v l =>
    cases h
    exact ⟨Nat.zero_le _, fun _ => Nat.zero_lt_succ _, Nat.zero_le _⟩
  case softReset p f =>
    refine doRequest_keeps countsOk_reads rfl (fun u hu => ite_fst_keeps hu (chargeInput_countsOk ?_)) hs h
    exact ⟨Nat.zero_le _, fun _ => by simp, Nat.zero_le _⟩
  case measurementRound r o => exact event_keeps h hs fun _ _ => round_countsOk r o hs
  case presentQualificationExpiry | rideThroughExpiry =>
    exact event_keeps h hs fun _ _ => chargeInput_countsOk (countsOk_reads.keep (inputBecomes_touches _ _) rfl hs)
  case qualificationExpiry =>
    refine event_keeps h hs fun _ _ => ite_keeps ?_ (hs.toCharge _)
    exact CountsOk.toCharge (s := { s with charge := { s.charge with resume := _ } }) _ hs
  case chargeSet p f =>
    refine doRequest_keeps countsOk_reads rfl (fun u hu => ?_) hs h
    simp only [Machine.chargeSet, chargeSettings]
    split
    · simpa only [CountsOk, driveIset_charge] using hu
    · exact hu
  case chargeEnable p f =>
    refine doRequest_keeps countsOk_reads rfl (fun u hu => ite_fst_keeps hu ?_) hs h
    have hset : CountsOk { u with charge := { u.charge with enable := flagAt f.body 0 } } := hu
    exact ite_keeps (ite_keeps (hset.toCharge _) hset) (ite_keeps hset (hset.toCharge _))
  case faultClear p f =>
    exact doRequest_keeps countsOk_reads rfl (fun u hu => ite_fst_keeps (hu.toCharge _) hu) hs h
  case generatorPeriodStart g => cases g <;> exact countsOk_reads.keep hfoot rfl hs
  case generatorWidthEnd g => cases g <;> exact countsOk_reads.keep hfoot rfl hs
  all_goals exact countsOk_reads.keep hfoot rfl hs

theorem State.bounded_iff (s : State) : s.Bounded ↔
    s.MotionBounded ∧ s.FrameBounded ∧ s.GapsBounded ∧ s.CountsOk := by
  simp only [Bounded, MotionBounded, Motion.CountsTo, FrameBounded, GapsBounded, CountsOk, Nat.lt_succ_iff]
  tauto

theorem State.bounded_reads :
    Reads [.samples, .tracker, .bands, .corrections, .gaps, .charger] State.Bounded := by
  intro s t h hs
  rw [bounded_iff] at hs ⊢
  obtain ⟨hm, hf, hg, hc⟩ := hs
  exact ⟨motionBounded_reads.mono (by decide) h hm,
    frameBounded_reads.mono (by decide) h hf,
    gapsBounded_reads.mono (by decide) h hg,
    countsOk_reads.mono (by decide) h hc⟩

/-- Settles O52: the bounds of the integrator, of the bands and the correction queue, of the gap count and of the
charger's counts, each kept by the commands that reach it. -/
theorem stepKeepsBounds : Obligations.StepKeepsBounds := by
  refine fun _ _ => step_keeps_of_exec bounded_reads rfl fun c s t hs h => ?_
  rw [bounded_iff] at hs ⊢
  obtain ⟨hm, hf, hg, hc⟩ := hs
  exact ⟨exec_keeps_motionBounded c s t hm h, exec_keeps_frameBounded c s t hf h, exec_keeps_gapsBounded c s t hg h,
    exec_keeps_countsOk c s t hc h⟩

end Sys2Proof.Machine

/-! # Every step keeps settings, accumulators and gauge in their ranges (R13, R14, R20, R40 to R49, R57, R60, R145,
R159, R161, R182) -/

namespace Sys2Proof.Machine

/-! ### Clamping and fields -/

theorem clamp_inRange {lo hi : Nat} (h : lo ≤ hi) (x : Nat) : inRange lo hi (clamp lo hi x) := by
  unfold clamp
  constructor <;> omega

theorem clamp_le {lo hi : Nat} (h : lo ≤ hi) (x : Nat) : clamp lo hi x ≤ hi := (clamp_inRange h x).2

theorem clampInt_range {lo hi : Int} (h : lo ≤ hi) (x : Int) : lo ≤ clampInt lo hi x ∧ clampInt lo hi x ≤ hi := by
  unfold clampInt
  constructor <;> omega

theorem saturate_natAbs_le (b : Nat) (x : Int) : (saturate b x).natAbs ≤ b := by
  unfold saturate
  omega

/-- A field of one byte is that byte. -/
theorem field_one (b : List Byte) (i : Nat) : field b i 1 = (byteAt b i).toNat := by
  unfold field byteAt
  rw [List.getD_eq_getElem?_getD, ← List.head?_drop]
  cases b.drop i <;> simp [beNat]

namespace State

/-! ### The angles (R44, R45) -/

theorem anglesOk_reads : Reads [.angles, .lens] AnglesOk := by
  intro s t h hs
  simp only [List.forall_mem_cons, Piece.Same] at h
  obtain ⟨⟨ha, hl⟩, hlens, -⟩ := h
  simpa only [AnglesOk, ha, hl, hlens] using hs

theorem absorb_anglesOk {s : State} (x : Sample) (pImu : Nat) (band : Fin 4) (h : s.AnglesOk) :
    ({ s with motion := (s.motion.absorb x pImu band).1 } : State).AnglesOk := by
  obtain ⟨hlim, -, -, -⟩ := h
  refine ⟨by simpa using hlim, ?_, ?_, ?_⟩ <;> rw [Motion.absorb_eq] <;> exact saturate_natAbs_le ..

theorem sample_anglesOk {s : State} (x : Sample) (h : s.AnglesOk) : (s.sample x).AnglesOk := by
  have hexamined := anglesOk_reads.keep (examine_touches _) rfl (absorb_anglesOk x s.link.settings.pImu s.wheel.band h)
  rw [sample_eq]
  split
  · exact anglesOk_reads.keep (episodeEnd_touches ..) rfl hexamined
  · exact anglesOk_reads.keep (crashCheck_touches _) rfl hexamined

/-- What a sample keeps, the end of a burst keeps. -/
theorem burstDone_keeps {ps : List Piece} {Inv : State → Prop} (hr : Reads ps Inv)
    (hd : Piece.apart ps [.gaps, .bus, .drdy] = true) {s : State} (bytes : Vector Byte 12)
    (hsample : ∀ x, Inv (s.sample x)) (h : Inv s) : Inv (s.burstDone bytes) := by
  unfold burstDone
  split
  case h_1 t gap _ =>
    refine hr.keep (qs := [.gaps, .bus, .drdy]) ?_ hd (hsample (assemble s.link.settings.order bytes t s.link.first))
    refine .trans ?_ ((serveBus_touches _ _).mono (by decide))
    simp [touches_iff]
  case h_2 => exact h

theorem repin_anglesOk (s : State) (l : Lens) :
    ({ s with frames := { s.frames with lens := l }, motion := s.motion.repin l } : State).AnglesOk :=
  ⟨rfl, saturate_natAbs_le .., saturate_natAbs_le .., saturate_natAbs_le ..⟩

theorem atReset_anglesOk {s : State} (h : s.AnglesOk) : s.motionSoftReset.AnglesOk := by
  obtain ⟨hlim, -⟩ := h
  exact ⟨hlim, Nat.zero_le _, Nat.zero_le _, Nat.zero_le _⟩

theorem softReset_anglesOk {s : State} (h : s.AnglesOk) : s.softReset.AnglesOk := by
  have hports := anglesOk_reads.keep (portsSoftReset_touches _) rfl (anglesOk_reads.keep (railGoesOff_touches s none) rfl h)
  exact anglesOk_reads.keep (chargeSoftReset_touches _) rfl (atReset_anglesOk hports)

end State

open State in
theorem exec_keeps_angles (c : Instr) (s t : State) (hs : s.AnglesOk) (h : exec c s = .next t) : t.AnglesOk := by
  have hfoot := exec_touches h
  cases c <;> dsimp only [exec] at h
  case por v l =>
    cases h
    exact ⟨rfl, Nat.zero_le _, Nat.zero_le _, Nat.zero_le _⟩
  case softReset p f =>
    exact doRequest_keeps anglesOk_reads rfl (fun u hu => ite_fst_keeps hu (softReset_anglesOk hu)) hs h
  case sampleBurstComplete b =>
    exact whenPowered_keeps h hs fun _ => burstDone_keeps anglesOk_reads rfl b (fun x => sample_anglesOk x hs) hs
  case lensSet p f => exact doRequest_keeps anglesOk_reads rfl (fun u _ => repin_anglesOk u _) hs h
  case generatorPeriodStart g => cases g <;> exact anglesOk_reads.keep hfoot rfl hs
  case generatorWidthEnd g => cases g <;> exact anglesOk_reads.keep hfoot rfl hs
  all_goals exact anglesOk_reads.keep hfoot rfl hs

namespace State

/-! ### The wheel (R13, R14) -/

/-- R13, R14: the wheel settings. -/
@[reducible] def WheelOk (s : State) : Prop := s.wheel.SettingsOk

theorem wheelOk_reads : Reads [.wheel] WheelOk := by
  intro s t h hs
  simp only [List.forall_mem_cons, Piece.Same] at h
  obtain ⟨hw, -⟩ := h
  simpa only [WheelOk, hw] using hs

theorem pulse_settingsOk {w : WheelMeter} (c : Tick) (h : w.SettingsOk) : (w.pulse c).SettingsOk := by
  obtain ⟨h1, h2, h3, h4, h5, -⟩ := h
  exact ⟨h1, h2, h3, h4, h5, rfl⟩

theorem qualify_wheelOk {s : State} (c : PendingChange) (h : s.WheelOk) : (s.qualify c).WheelOk := by
  unfold qualify
  dsimp only
  split
  · exact h
  · exact pulse_settingsOk _ h

theorem wheelRaw_wheelOk {s : State} (l : Level) (h : s.WheelOk) : (s.wheelRaw l).WheelOk :=
  ite_keeps h (ite_keeps (qualify_wheelOk (s := { s with qualifier := { s.qualifier with raw := l } }) _ h) h)

theorem requalify_wheelOk {s : State} (h : s.WheelOk) : s.requalify.WheelOk := by
  unfold requalify
  split
  · exact ite_keeps (qualify_wheelOk _ h) h
  · exact h

theorem wheelSet_wheelOk {s : State} (p : Port) (b : List Byte) (h : s.WheelOk) : (Machine.wheelSet p b s).1.WheelOk := by
  unfold Machine.wheelSet
  dsimp only
  split
  case isTrue hord =>
    exact requalify_wheelOk ⟨clamp_le (by decide) _, clamp_le (by decide) _, hord.1, hord.2,
      (clamp_inRange (by decide) _).1, rfl⟩
  case isFalse => exact h

end State

open State in
theorem exec_keeps_wheel (c : Instr) (s t : State) (hs : s.WheelOk) (h : exec c s = .next t) : t.WheelOk := by
  have hfoot := exec_touches h
  cases c <;> dsimp only [exec] at h
  case por v l =>
    cases h
    show WheelMeter.atReset.SettingsOk
    decide
  case softReset p f =>
    refine doRequest_keeps wheelOk_reads rfl (fun u hu => ite_fst_keeps hu ?_) hs h
    refine wheelOk_reads.keep (chargeSoftReset_touches _) rfl ?_
    show WheelMeter.atReset.SettingsOk
    decide
  case wheelRawChange l => exact event_keeps h hs fun _ _ => wheelRaw_wheelOk l hs
  case wheelQualification =>
    refine whenPowered_keeps h hs fun _ => ?_
    split
    · exact ite_keeps (qualify_wheelOk _ hs) hs
    · exact hs
  case stopTimerExpiry =>
    refine event_keeps h hs fun _ _ => ?_
    obtain ⟨h1, h2, h3, h4, h5, -⟩ := hs
    exact ⟨h1, h2, h3, h4, h5, rfl⟩
  case wheelSet p f => exact doRequest_keeps wheelOk_reads rfl (fun u hu => wheelSet_wheelOk p f.body hu) hs h
  case generatorPeriodStart g => cases g <;> exact wheelOk_reads.keep hfoot rfl hs
  case generatorWidthEnd g => cases g <;> exact wheelOk_reads.keep hfoot rfl hs
  all_goals exact wheelOk_reads.keep hfoot rfl hs

/-! ### The settings that a request sets whole (R20, R57, R60, R145, R159, R161) -/

namespace State

/-- R20, R57, R60, R145, R159, R161: the settings that one request each carries. -/
@[reducible] def TunedOk (s : State) : Prop :=
  s.link.settings.Ok ∧ s.motion.settings.Ok ∧ s.frames.lens.Ok ∧ s.supply.settings.Ok ∧ s.charge.settings.Ok
  ∧ ∀ i ∈ s.charge.table.toList, i ≤ 3000

theorem tunedOk_reads : Reads [.linkSettings, .motionSettings, .lens, .supplySettings, .chargeSettings, .classTable]
    TunedOk := by
  intro s t h hs
  simp only [List.forall_mem_cons, Piece.Same] at h
  obtain ⟨hl, hm, hf, hs', hc, ht, -⟩ := h
  simpa only [TunedOk, hl, hm, hf, hs', hc, ht] using hs

theorem imuLinkSet_tunedOk {s : State} (p : Port) (b : List Byte) (h : s.TunedOk) :
    (Machine.imuLinkSet p b s).1.TunedOk := by
  unfold Machine.imuLinkSet
  split
  · exact h
  · split
    · exact h
    case isFalse hchecks =>
      obtain ⟨-, hrest⟩ := h
      rw [not_or, not_or, field_one, field_one] at hchecks
      obtain ⟨hid, hsample, -⟩ := hchecks
      exact ⟨⟨Nat.le_of_not_lt hid, Nat.le_of_not_lt hsample, clamp_inRange (by decide) _⟩, hrest⟩

theorem readMap_distinct {b : List Byte} {m : Axes AxisMap} (h : readMap b = some m) :
    m.yaw.src ≠ m.pitch.src ∧ m.yaw.src ≠ m.roll.src ∧ m.pitch.src ≠ m.roll.src := by
  unfold readMap at h
  split at h
  · split at h
    case isTrue hdistinct =>
      cases h
      exact hdistinct
    case isFalse => cases h
  · cases h

theorem readMotion_ok {b : List Byte} {m : Axes AxisMap} (h : readMap b = some m) : (readMotion m b).Ok := by
  have hshock := clamp_inRange (show 1 ≤ 32767 by decide) (field b 11 2)
  have hcrash := clamp_inRange (show 1 ≤ 32767 by decide) (field b 13 2)
  refine ⟨clamp_inRange (by decide) _, ?_, clamp_le (by decide) _, hshock, ?_, readMap_distinct h⟩
  · intro l hl
    simp only [readMotion, Vector.toList_mk, List.mem_cons, List.not_mem_nil, or_false] at hl
    rcases hl with rfl | rfl | rfl | rfl <;> exact clamp_inRange (by decide) _
  · simp only [readMotion, inRange] at *
    omega

theorem motionSet_tunedOk {s : State} (p : Port) (b : List Byte) (h : s.TunedOk) :
    (Machine.motionSet p b s).1.TunedOk := by
  unfold Machine.motionSet
  split
  case h_1 m hm =>
    obtain ⟨hl, -, hrest⟩ := h
    exact ⟨hl, readMotion_ok hm, hrest⟩
  case h_2 => exact h

theorem lensSet_tunedOk {s : State} (p : Port) (b : List Byte) (h : s.TunedOk) : (Machine.lensSet p b s).1.TunedOk := by
  obtain ⟨hl, hm, -, hrest⟩ := h
  exact ⟨hl, hm, ⟨clamp_inRange (by decide) _, clamp_inRange (by decide) _, clamp_le (by decide) _,
    clamp_le (by decide) _, clamp_le (by decide) _⟩, hrest⟩

theorem supplySet_tunedOk {s : State} (p : Port) (b : List Byte) (h : s.TunedOk) :
    (Machine.supplySet p b s).1.TunedOk := by
  unfold Machine.supplySet
  dsimp only
  split
  case isTrue hord =>
    obtain ⟨hl, hm, hf, -, hrest⟩ := h
    exact ⟨hl, hm, hf, ⟨clamp_inRange (by decide) _, clamp_inRange (by decide) _, clamp_inRange (by decide) _,
      clamp_inRange (by decide) _, hord.1, hord.2⟩, hrest⟩
  case isFalse => exact h

theorem readCharge_ok (b : List Byte) : (readCharge b).Ok := by
  have hcv := clamp_inRange (show 4100 ≤ 4400 by decide) (field b 8 2)
  refine ⟨clamp_inRange (by decide) _, clamp_inRange (by decide) _, clamp_inRange (by decide) _,
    clamp_inRange (by decide) _, ?_, Nat.mul_mod_left _ _, clamp_inRange (by decide) _, clamp_le (by decide) _⟩
  simp only [readCharge, inRange] at *
  omega

theorem chargeSet_tunedOk {s : State} (p : Port) (b : List Byte) (h : s.TunedOk) :
    (Machine.chargeSet p b s).1.TunedOk := by
  obtain ⟨hl, hm, hf, hs, -, ht⟩ := h
  have hset : TunedOk { s with charge := { s.charge with settings := readCharge b } } :=
    ⟨hl, hm, hf, hs, readCharge_ok b, ht⟩
  unfold Machine.chargeSet chargeSettings
  dsimp only
  split
  · refine tunedOk_reads.keep (driveIset_touches _) rfl ?_
    exact hset
  · exact hset

theorem powerTableSet_tunedOk {s : State} (p : Port) (b : List Byte) (h : s.TunedOk) :
    (Machine.powerTableSet p b s).1.TunedOk := by
  obtain ⟨hl, hm, hf, hs, hc, -⟩ := h
  refine ⟨hl, hm, hf, hs, hc, ?_⟩
  intro i hi
  simp only [Machine.powerTableSet, Vector.mem_toList_iff, Vector.mem_ofFn] at hi
  obtain ⟨j, rfl⟩ := hi
  exact clamp_le (by decide) _

theorem por_tunedOk (s : State) (v : Nat) (l : Level) : (s.por v l).TunedOk := by
  show LinkSettings.default.Ok ∧ MotionSettings.default.Ok ∧ Lens.default.Ok ∧ SupplySettings.default.Ok
    ∧ ChargeSettings.default.Ok ∧ ∀ i ∈ Charge.atPor.table.toList, i ≤ 3000
  decide

end State

open State in
theorem exec_keeps_tuned (c : Instr) (s t : State) (hs : s.TunedOk) (h : exec c s = .next t) : t.TunedOk := by
  have hfoot := exec_touches h
  cases c <;> dsimp only [exec] at h
  case por v l => cases h; exact por_tunedOk ..
  case imuLinkSet p f => exact doRequest_keeps tunedOk_reads rfl (fun u hu => imuLinkSet_tunedOk p f.body hu) hs h
  case motionSet p f => exact doRequest_keeps tunedOk_reads rfl (fun u hu => motionSet_tunedOk p f.body hu) hs h
  case lensSet p f => exact doRequest_keeps tunedOk_reads rfl (fun u hu => lensSet_tunedOk p f.body hu) hs h
  case supplySet p f => exact doRequest_keeps tunedOk_reads rfl (fun u hu => supplySet_tunedOk p f.body hu) hs h
  case chargeSet p f => exact doRequest_keeps tunedOk_reads rfl (fun u hu => chargeSet_tunedOk p f.body hu) hs h
  case powerTableSet p f =>
    exact doRequest_keeps tunedOk_reads rfl (fun u hu => powerTableSet_tunedOk p f.body hu) hs h
  case generatorPeriodStart g => cases g <;> exact tunedOk_reads.keep hfoot rfl hs
  case generatorWidthEnd g => cases g <;> exact tunedOk_reads.keep hfoot rfl hs
  all_goals exact tunedOk_reads.keep hfoot rfl hs

end Sys2Proof.Machine

namespace Sys2Proof.Machine

/-! ### The bias (R48, R49) -/

/-- R48, R49: a bias is within twelve bits. -/
@[reducible] def Axes.BiasOk (a : Axes Int) : Prop := ∀ b ∈ a.toList, -2048 ≤ b ∧ b ≤ 2047

theorem Axes.biasOk_iff (a : Axes Int) : a.BiasOk ↔ (-2048 ≤ a.yaw ∧ a.yaw ≤ 2047) ∧ (-2048 ≤ a.pitch ∧ a.pitch ≤ 2047)
    ∧ (-2048 ≤ a.roll ∧ a.roll ≤ 2047) := by
  simp [BiasOk, Axes.toList]

namespace State

@[reducible] def BiasOk (s : State) : Prop := s.motion.bias.BiasOk

theorem biasOk_reads : Reads [.bias] BiasOk := by
  intro s t h hs
  simp only [List.forall_mem_cons, Piece.Same] at h
  obtain ⟨hb, -⟩ := h
  simpa only [BiasOk, hb] using hs

theorem windowBias_range (n : Int) : -2048 ≤ windowBias n ∧ windowBias n ≤ 2047 := clampInt_range (by decide) _

theorem stillWindow_biasOk {m : Motion} (still : Bool) (u : Axes Int) (h : m.bias.BiasOk) :
    (m.stillWindow still u).bias.BiasOk := by
  unfold Motion.stillWindow
  split
  · exact h
  · dsimp only
    split
    · exact (Axes.biasOk_iff _).mpr ⟨windowBias_range _, windowBias_range _, windowBias_range _⟩
    · exact h

theorem absorb_biasOk {m : Motion} (x : Sample) (pImu : Nat) (band : Fin 4) (h : m.bias.BiasOk) :
    (m.absorb x pImu band).1.bias.BiasOk := by
  rw [Motion.absorb_eq]
  simp only [Motion.integrateSample_bias, Motion.judged, Motion.shockEval_bias]
  exact stillWindow_biasOk _ _ (by simpa using h)

theorem sample_biasOk {s : State} (x : Sample) (h : s.BiasOk) : (s.sample x).BiasOk := by
  have habsorb : BiasOk { s with motion := (s.motion.absorb x s.link.settings.pImu s.wheel.band).1 } :=
    absorb_biasOk x _ _ h
  have hexamined := biasOk_reads.keep (examine_touches _) rfl habsorb
  rw [sample_eq]
  split
  · exact biasOk_reads.keep (episodeEnd_touches ..) rfl hexamined
  · exact biasOk_reads.keep (crashCheck_touches _) rfl hexamined

theorem noBias_ok : (Axes.all (0 : Int)).BiasOk := by
  simp [Axes.biasOk_iff, Axes.all]

end State

open State in
theorem exec_keeps_bias (c : Instr) (s t : State) (hs : s.BiasOk) (h : exec c s = .next t) : t.BiasOk := by
  have hfoot := exec_touches h
  cases c <;> dsimp only [exec] at h
  case por v l => cases h; exact noBias_ok
  case softReset p f =>
    refine doRequest_keeps biasOk_reads rfl (fun u hu => ite_fst_keeps hu ?_) hs h
    exact biasOk_reads.keep (chargeSoftReset_touches _) rfl noBias_ok
  case sampleBurstComplete b =>
    exact whenPowered_keeps h hs fun _ => burstDone_keeps biasOk_reads rfl b (fun x => sample_biasOk x hs) hs
  case biasSet p f =>
    refine doRequest_keeps biasOk_reads rfl (fun u _ => ?_) hs h
    exact (Axes.biasOk_iff _).mpr
      ⟨clampInt_range (by decide) _, clampInt_range (by decide) _, clampInt_range (by decide) _⟩
  case generatorPeriodStart g => cases g <;> exact biasOk_reads.keep hfoot rfl hs
  case generatorWidthEnd g => cases g <;> exact biasOk_reads.keep hfoot rfl hs
  all_goals exact biasOk_reads.keep hfoot rfl hs

/-! ### The gauge (R182, R184) -/

theorem Gauge.add_ok {g : Gauge} (i : Int) (h : g.Ok) : (g.add i).Ok := by
  obtain ⟨-, hcap⟩ := h
  refine ⟨?_, hcap⟩
  obtain ⟨-, hle⟩ := clampInt_range (Int.natCast_nonneg g.full) ((g.acc : Int) + i * 1024)
  exact Int.toNat_le.mpr hle

theorem Gauge.setFull_ok {g : Gauge} (h : g.Ok) : g.setFull.Ok := ⟨le_rfl, h.2⟩

namespace State

@[reducible] def GaugeOk (s : State) : Prop := s.gauge.Ok

theorem gaugeOk_reads : Reads [.gauge] GaugeOk := by
  intro s t h hs
  simp only [List.forall_mem_cons, Piece.Same] at h
  obtain ⟨hg, -⟩ := h
  simpa only [GaugeOk, hg] using hs

theorem toCharge_gaugeOk {s : State} (new : ChargeState) (h : s.GaugeOk) : (s.toCharge new).GaugeOk := by
  simpa only [GaugeOk, toCharge_gauge] using h

/-- R183: of the changes of charge state only the end of CV writes the gauge. -/
theorem changeCharge_gaugeOk {s : State} (m : MeasTable) (h : s.GaugeOk) : (s.changeCharge m).GaugeOk := by
  refine changeCharge_keeps (fun _ => h) ?_ (fun _ _ => h) ?_ ?_ ?_ ?_
  · exact fun c _ _ _ => toCharge_gaugeOk _ h
  · exact fun r _ _ _ _ => toCharge_gaugeOk _ h
  · exact fun r _ _ => toCharge_gaugeOk _ h
  · exact fun new _ _ => toCharge_gaugeOk _ h
  · exact fun _ => toCharge_gaugeOk (s := { s with gauge := s.gauge.setFull }) _ (Gauge.setFull_ok h)

theorem chargeRound_gaugeOk {s : State} (m : MeasTable) (h : s.GaugeOk) : (s.chargeRound m).GaugeOk := by
  rw [GaugeOk, chargeRound_gauge]
  exact changeCharge_gaugeOk m h

theorem round_gaugeOk {s : State} (r : RawMeas) (o : RoundOrder) (h : s.GaugeOk) : (s.round r o).GaugeOk := by
  refine round_keeps r o (gaugeOk_reads.keep (applyInput_touches _ _) rfl h) fun first changed w u hu => ?_
  cases w with
  | supply => exact gaugeOk_reads.keep (judge_touches ..) rfl hu
  | input => exact ite_keeps (gaugeOk_reads.keep (chargeInput_touches u) rfl hu) hu
  | charge =>
    exact ite_keeps (chargeRound_gaugeOk _ (s := { u with gauge := u.gauge.add _ }) (Gauge.add_ok _ hu))
      (Gauge.add_ok _ (chargeRound_gaugeOk _ hu))

theorem gaugeSet_gaugeOk {s : State} (p : Port) (b : List Byte) : (Machine.gaugeSet p b s).1.GaugeOk := by
  refine ⟨?_, clamp_inRange (by decide) _⟩
  exact Nat.mul_le_mul_right _ (clamp_le (Nat.zero_le _) _)

end State

open State in
theorem exec_keeps_gauge (c : Instr) (s t : State) (hs : s.GaugeOk) (h : exec c s = .next t) : t.GaugeOk := by
  have hfoot := exec_touches h
  cases c <;> dsimp only [exec] at h
  case por v l =>
    cases h
    show Gauge.atPor.Ok
    decide
  case measurementRound r o => exact event_keeps h hs fun _ _ => round_gaugeOk r o hs
  case gaugeSet p f => exact doRequest_keeps gaugeOk_reads rfl (fun u _ => gaugeSet_gaugeOk p f.body) hs h
  case generatorPeriodStart g => cases g <;> exact gaugeOk_reads.keep hfoot rfl hs
  case generatorWidthEnd g => cases g <;> exact gaugeOk_reads.keep hfoot rfl hs
  all_goals exact gaugeOk_reads.keep hfoot rfl hs

/-! ### All values -/

/-- What `StepKeepsValues` keeps. -/
@[reducible] def State.ValuesOk (s : State) : Prop := s.AnglesOk ∧ s.SettingsOk ∧ s.gauge.Ok

theorem State.valuesOk_iff (s : State) : s.ValuesOk ↔ s.AnglesOk ∧ s.WheelOk ∧ s.TunedOk ∧ s.BiasOk ∧ s.GaugeOk := by
  simp only [ValuesOk, SettingsOk, WheelOk, TunedOk, BiasOk, Axes.BiasOk, GaugeOk]
  tauto

theorem State.valuesOk_reads : Reads [.angles, .lens, .wheel, .linkSettings, .motionSettings, .supplySettings,
    .chargeSettings, .classTable, .bias, .gauge] State.ValuesOk := by
  intro s t h hs
  rw [valuesOk_iff] at hs ⊢
  obtain ⟨ha, hw, ht, hb, hg⟩ := hs
  exact ⟨anglesOk_reads.mono (by decide) h ha, wheelOk_reads.mono (by decide) h hw,
    tunedOk_reads.mono (by decide) h ht, biasOk_reads.mono (by decide) h hb, gaugeOk_reads.mono (by decide) h hg⟩

/-- Settles O54: every setting is clamped or checked where a request writes it, and a sample or a round pins what it
accumulates. -/
theorem stepKeepsValues : Obligations.StepKeepsValues := by
  refine fun _ _ => step_keeps_of_exec State.valuesOk_reads rfl fun c s t hs h => ?_
  rw [State.valuesOk_iff] at hs ⊢
  obtain ⟨ha, hw, ht, hb, hg⟩ := hs
  exact ⟨exec_keeps_angles c s t ha h, exec_keeps_wheel c s t hw h, exec_keeps_tuned c s t ht h,
    exec_keeps_bias c s t hb h, exec_keeps_gauge c s t hg h⟩

end Sys2Proof.Machine

/-! # Every step keeps the clip catalogue well formed (R85 to R89, R95, R112, R113)

The catalogue's operations change records in place (`Catalogue.onClip`, the selection of victims), add one, or remove one.
-/

namespace Sys2Proof.Machine
namespace Catalogue

theorem openClip_isSome_iff (c : Catalogue) : c.openClip.isSome ↔ ∃ x ∈ c.clips, x.state = .opened := by
  simp [openClip, List.find?_isSome]

/-! ### Records changed in place -/

/-- Records changed in place keep the catalogue well formed when each keeps its number and its own agreement, none is
opened, and units and marks have room. -/
theorem mapped_ok {c : Catalogue} {g : Clip → Clip} {r : Option Nat} (hc : c.Ok)
    (hnum : ∀ x ∈ c.clips, (g x).number = x.number) (hok : ∀ x ∈ c.clips, (g x).Ok)
    (hopen : ∀ x ∈ c.clips, (g x).state = .opened → x.state = .opened)
    (huse : unitsOf (c.clips.map g) ≤ c.card.capacity)
    (hpool : ((c.clips.map g).map fun x => x.marks.length).sum ≤ 256)
    (hres : ∀ u ∈ r, 1 ≤ u ∧ u ≤ 65535 ∧ ∃ x ∈ c.clips, (g x).state = .opened) :
    ({ c with clips := c.clips.map g, reservation := r } : Catalogue).Ok := by
  obtain ⟨hlen, hpw, hclips, hn1, hn2, hone, -, -, hcap, -⟩ := hc
  refine ⟨by simpa using hlen, ?_, ?_, hn1, hn2, ?_, ?_, huse, hcap, hpool⟩
  · rw [List.pairwise_map]
    exact hpw.imp_of_mem fun {a b} ha hb hlt => by rwa [hnum a ha, hnum b hb]
  · intro y hy
    obtain ⟨x, hx, rfl⟩ := List.mem_map.mp hy
    refine ⟨hok x hx, ?_⟩
    rw [hnum x hx]
    exact (hclips x hx).2
  · rw [← List.countP_eq_length_filter, List.countP_map]
    rw [← List.countP_eq_length_filter] at hone
    refine (List.countP_mono_left fun x hx hopened => ?_).trans hone
    simpa using hopen x hx (by simpa using hopened)
  · intro u hu
    obtain ⟨h1, h2, x, hx, hst⟩ := hres u hu
    refine ⟨h1, h2, (openClip_isSome_iff _).mpr ⟨g x, List.mem_map_of_mem hx, hst⟩⟩

/-- Of records in ascending numbers a change of record `n` raises a sum by no more than it raises that record's share. -/
theorem sum_onClip_le {l : List Clip} (hpw : l.Pairwise fun x y => x.number < y.number) (n : Nat) (f : Clip → Clip)
    (h : Clip → Nat) (k : Nat) (hk : ∀ x ∈ l, x.number = n → h (f x) ≤ h x + k) :
    ((l.map fun x => if x.number = n then f x else x).map h).sum ≤ (l.map h).sum + k := by
  induction l with
  | nil => exact Nat.zero_le _
  | cons a l ih =>
    rw [List.pairwise_cons] at hpw
    obtain ⟨hlt, hpw⟩ := hpw
    simp only [List.map_cons, List.sum_cons]
    by_cases ha : a.number = n
    · have hrest : (l.map fun x => if x.number = n then f x else x) = l := by
        conv_rhs => rw [← List.map_id l]
        refine List.map_congr_left fun x hx => if_neg ?_
        have := hlt x hx
        omega
      rw [hrest, if_pos ha]
      have := hk a (List.mem_cons_self ..) ha
      omega
    · rw [if_neg ha]
      have := ih hpw fun x hx => hk x (List.mem_cons_of_mem _ hx)
      omega

/-- A change of record `n` by `f`, and of the reservation: what `f` has to keep. -/
theorem onClip_ok {c : Catalogue} {n : Nat} {f : Clip → Clip} {r : Option Nat} (hc : c.Ok) (units marks : Nat)
    (hnum : ∀ x ∈ c.clips, x.number = n → (f x).number = x.number)
    (hok : ∀ x ∈ c.clips, x.number = n → x.Ok → (f x).Ok)
    (hopen : ∀ x ∈ c.clips, x.number = n → (f x).state = .opened → x.state = .opened)
    (hunits : ∀ x ∈ c.clips, x.number = n → (f x).units ≤ x.units + units)
    (hfree : c.inUse + units ≤ c.card.capacity)
    (hmarks : ∀ x ∈ c.clips, x.number = n → (f x).marks.length ≤ x.marks.length + marks)
    (hroom : c.poolSize + marks ≤ 256)
    (hres : ∀ u ∈ r, (c.reservation = some u) ∧ ∀ x ∈ c.clips, x.number = n → x.state = .opened → (f x).state = .opened) :
    ({ c.onClip n f with reservation := r } : Catalogue).Ok := by
  obtain ⟨-, hpw, hclips, -, -, -, hres0, -, -, -⟩ := id hc
  refine mapped_ok hc ?_ ?_ ?_ ?_ ?_ ?_
  · intro x hx
    split
    case isTrue h => exact hnum x hx h
    case isFalse => rfl
  · intro x hx
    split
    case isTrue h => exact hok x hx h (hclips x hx).1
    case isFalse => exact (hclips x hx).1
  · intro x hx
    split
    case isTrue h => exact hopen x hx h
    case isFalse => exact id
  · exact (sum_onClip_le hpw n f Clip.units units hunits).trans hfree
  · exact (sum_onClip_le hpw n f (fun x => x.marks.length) marks hmarks).trans hroom
  · intro u hu
    obtain ⟨hr, hst⟩ := hres u hu
    obtain ⟨h1, h2, hopened⟩ := hres0 u hr
    obtain ⟨x, hx, hxo⟩ := (openClip_isSome_iff c).mp hopened
    refine ⟨h1, h2, x, hx, ?_⟩
    split
    case isTrue h => exact hst x hx h hxo
    case isFalse => exact hxo

/-- A change of record `n` that leaves its number, state, units and count of marks. -/
theorem onClip_ok_of_same {c : Catalogue} {n : Nat} {f : Clip → Clip} (hc : c.Ok)
    (hnum : ∀ x, (f x).number = x.number) (hst : ∀ x, (f x).state = x.state) (hunits : ∀ x, (f x).units = x.units)
    (hmarks : ∀ x, (f x).marks.length = x.marks.length) (hok : ∀ x ∈ c.clips, x.number = n → x.Ok → (f x).Ok) :
    (c.onClip n f).Ok := by
  obtain ⟨-, -, -, -, -, -, -, huse, -, hpool⟩ := id hc
  refine onClip_ok (r := c.reservation) hc 0 0 (fun x _ _ => hnum x) hok (fun x _ _ ho => hst x ▸ ho)
    (fun x _ _ => (hunits x).le) huse (fun x _ _ => (hmarks x).le) hpool fun u hu => ⟨hu, fun x _ _ ho => ?_⟩
  exact (hst x).trans ho

/-! ### The record that an operation names is the one it changes -/

theorem eq_of_number {c : Catalogue} (hc : c.Ok) {x y : Clip} (hx : x ∈ c.clips) (hy : y ∈ c.clips)
    (h : x.number = y.number) : x = y := by
  obtain ⟨-, hpw, -⟩ := hc
  by_contra hne
  have hpw' := List.pairwise_iff_getElem.mp hpw
  obtain ⟨i, hi, rfl⟩ := List.mem_iff_getElem.mp hx
  obtain ⟨j, hj, rfl⟩ := List.mem_iff_getElem.mp hy
  rcases Nat.lt_trichotomy i j with hij | rfl | hji
  · have := hpw' i j hi hj hij
    omega
  · exact hne rfl
  · have := hpw' j i hj hi hji
    omega

/-! ### Marks (R113, R117, R118) -/

theorem insertMark_length (ms : List Mark) (m : Mark) : (insertMark ms m).length = ms.length + 1 := by
  unfold insertMark
  rw [List.length_insertIdx_of_le_length]
  exact (List.takeWhile_sublist _).length_le

theorem mem_insertMark {ms : List Mark} {m x : Mark} (h : x ∈ insertMark ms m) : x = m ∨ x ∈ ms := by
  unfold insertMark at h
  exact (List.mem_insertIdx (List.takeWhile_sublist _).length_le).mp h

theorem lowerPeak_cases (a b : Option (Nat × Nat)) : lowerPeak a b = a ∨ lowerPeak a b = b := by
  unfold lowerPeak
  split
  · split <;> simp
  · simp
  · simp

theorem lowestShock_index {i j p : Nat} {ms : List Mark} (h : lowestShock i ms = some (j, p)) :
    i ≤ j ∧ j < i + ms.length := by
  induction ms generalizing i with
  | nil => cases h
  | cons m ms ih =>
    unfold lowestShock at h
    rcases lowerPeak_cases (if m.kind = .shock then some (i, m.peak.getD 0) else none) (lowestShock (i + 1) ms)
      with hl | hl <;> rw [hl] at h
    · split at h
      · cases h
        simp
      · cases h
    · have := ih h
      simp only [List.length_cons]
      omega

theorem replaceShock_length (ms : List Mark) (m : Mark) : (replaceShock ms m).length = ms.length := by
  unfold replaceShock
  split
  case h_1 i p h =>
    split
    · have := lowestShock_index h
      rw [insertMark_length, List.length_eraseIdx_of_lt (by omega)]
      omega
    · rfl
  case h_2 => rfl

theorem mem_replaceShock {ms : List Mark} {m x : Mark} (h : x ∈ replaceShock ms m) : x = m ∨ x ∈ ms := by
  unfold replaceShock at h
  split at h
  · split at h
    · exact (mem_insertMark h).imp id List.mem_of_mem_eraseIdx
    · exact .inr h
  · exact .inr h

/-- A mark that joins or is weighed leaves a record within its sixteen marks. -/
theorem withMarks_ok {x : Clip} {m : Mark} {ms : List Mark} {b : Bool} (hm : m.kind = .user ↔ m.peak = none)
    (hmem : ∀ y ∈ ms, y = m ∨ y ∈ x.marks) (hlen : ms.length ≤ 16) (hx : x.Ok) :
    ({ x with marks := ms, truncated := b } : Clip).Ok := by
  obtain ⟨h1, h2, h3, h4, h5, h6, h7, h8, -, h10⟩ := hx
  refine ⟨h1, h2, h3, h4, h5, h6, h7, h8, hlen, fun y hy => ?_⟩
  rcases hmem y hy with rfl | hy
  · exact hm
  · exact h10 y hy

theorem markClip_ok {c : Catalogue} {x : Clip} {m : Mark} (hm : m.kind = .user ↔ m.peak = none) (hx : x.Ok) :
    (c.markClip m x).Ok := by
  obtain ⟨-, -, -, -, -, -, -, -, hlen, -⟩ := id hx
  unfold markClip
  split
  case isTrue hroom =>
    simp only [room, Bool.and_eq_true, decide_eq_true_eq] at hroom
    refine withMarks_ok hm (fun y => mem_insertMark) ?_ hx
    rw [insertMark_length]
    omega
  case isFalse =>
    refine withMarks_ok hm (fun y => mem_replaceShock) ?_ hx
    rwa [replaceShock_length]

theorem markClip_same (c : Catalogue) (m : Mark) (x : Clip) : (c.markClip m x).number = x.number
    ∧ (c.markClip m x).state = x.state ∧ (c.markClip m x).units = x.units := by
  unfold markClip
  split <;> exact ⟨rfl, rfl, rfl⟩

theorem markClip_marks (c : Catalogue) (m : Mark) (x : Clip) :
    (c.markClip m x).marks.length ≤ x.marks.length + if c.poolSize < 256 then 1 else 0 := by
  unfold markClip
  split
  case isTrue hroom =>
    simp only [room, Bool.and_eq_true, decide_eq_true_eq] at hroom
    rw [insertMark_length, if_pos hroom.2]
  case isFalse =>
    rw [replaceShock_length]
    omega

/-- A mark with a peak joins the record `n`, or is weighed against its marks. -/
theorem onClip_markClip_ok {c : Catalogue} (n : Nat) {m : Mark} (hm : m.kind = .user ↔ m.peak = none) (hc : c.Ok) :
    (c.onClip n (c.markClip m)).Ok := by
  obtain ⟨-, -, -, -, -, -, -, huse, -, hpool⟩ := id hc
  refine onClip_ok (r := c.reservation) hc 0 (if c.poolSize < 256 then 1 else 0) (fun x _ _ => (markClip_same c m x).1)
    (fun x _ _ => markClip_ok hm) (fun x _ _ ho => ?_) (fun x _ _ => (markClip_same c m x).2.2.le) huse
    (fun x _ _ => markClip_marks c m x) ?_ fun u hu => ⟨hu, fun x _ _ ho => ?_⟩
  · rwa [(markClip_same c m x).2.1] at ho
  · split <;> omega
  · exact (markClip_same c m x).2.1.trans ho

/-! ### The selection of victims (R90, R91) -/

theorem takeVictims_mem {met : List Clip → Bool} {taken cands : List Clip} {x : Clip}
    (h : x ∈ takeVictims met taken cands) : x ∈ taken ∨ x ∈ cands := by
  induction cands generalizing taken with
  | nil => exact .inl h
  | cons a cands ih =>
    unfold takeVictims at h
    split at h
    · exact .inl h
    · rcases ih h with h | h
      · rw [List.mem_append, List.mem_singleton] at h
        rcases h with h | rfl
        · exact .inl h
        · exact .inr (List.mem_cons_self ..)
      · exact .inr (List.mem_cons_of_mem _ h)

theorem recycle_ok {x : Clip} (hcand : x.candidate = true) (hx : x.Ok) : x.recycle.Ok := by
  simp only [Clip.candidate, Bool.and_eq_true, Bool.or_eq_true, decide_eq_true_eq] at hcand
  obtain ⟨hst, hprot⟩ := hcand
  have hclosed : x.state ≠ .opened := by rcases hst with h | h <;> simp [h]
  obtain ⟨h1, h2, h3, h4, h5, h6, h7, h8, h9, h10⟩ := hx
  refine ⟨h1, ?_, by simp [Clip.recycle], by simp [Clip.recycle], fun hr => absurd (h5 hr) hclosed, fun _ => hprot, h7,
    h8, h9, h10⟩
  have hend : x.ending ≠ none := fun he => hclosed (h2.mpr he)
  simp [Clip.recycle, hend]

/-- What a selection gives: the record states apart from the victims, which are candidates and become RECYCLING. -/
theorem select_spec {c c' : Catalogue} {need : Need} {vs : List Nat} (hc : c.Ok) (h : c.select need = some (vs, c')) :
    c' = { c with clips := c.clips.map fun x => if vs.contains x.number then x.recycle else x }
    ∧ ∀ x ∈ c.clips, vs.contains x.number = true → x.candidate = true := by
  unfold select at h
  dsimp only at h
  split at h
  case isFalse => cases h
  case isTrue =>
    cases h
    refine ⟨rfl, fun x hx hv => ?_⟩
    rw [List.contains_iff_mem, List.mem_map] at hv
    obtain ⟨y, hy, hnum⟩ := hv
    rcases takeVictims_mem hy with hy | hy
    · simp at hy
    · obtain ⟨hyc, hcand⟩ := List.mem_filter.mp hy
      rwa [← eq_of_number hc hyc hx hnum]

theorem candidate_not_opened {x : Clip} (h : x.candidate = true) : x.state ≠ .opened := by
  simp only [Clip.candidate, Bool.and_eq_true, Bool.or_eq_true, decide_eq_true_eq] at h
  rcases h.1 with h | h <;> simp [h]

/-- A selection leaves the records and their units, and the OPEN record open. -/
theorem select_same {c c' : Catalogue} {need : Need} {vs : List Nat} (hc : c.Ok) (h : c.select need = some (vs, c')) :
    c'.inUse = c.inUse ∧ c'.poolSize = c.poolSize ∧ (c.openClip.isSome → c'.openClip.isSome) := by
  obtain ⟨rfl, hcand⟩ := select_spec hc h
  refine ⟨?_, ?_, ?_⟩
  · simp only [inUse, unitsOf, List.map_map]
    congr 1
    refine List.map_congr_left fun x _ => ?_
    simp only [Function.comp_apply]
    split <;> rfl
  · simp only [poolSize, List.map_map]
    congr 1
    refine List.map_congr_left fun x _ => ?_
    simp only [Function.comp_apply]
    split <;> rfl
  · intro ho
    obtain ⟨x, hx, hxo⟩ := (openClip_isSome_iff c).mp ho
    refine (openClip_isSome_iff _).mpr ⟨x, ?_, hxo⟩
    refine List.mem_map.mpr ⟨x, hx, if_neg fun hv => ?_⟩
    exact candidate_not_opened (hcand x hx hv) hxo

/-- A selection keeps the catalogue well formed, with a reservation that its OPEN record can hold. -/
theorem select_ok {c c' : Catalogue} {need : Need} {vs : List Nat} (hc : c.Ok) (h : c.select need = some (vs, c'))
    {r : Option Nat} (hr : ∀ u ∈ r, 1 ≤ u ∧ u ≤ 65535 ∧ c.openClip.isSome) :
    ({ c' with reservation := r } : Catalogue).Ok := by
  obtain ⟨huse', hpool', hopen'⟩ := select_same hc h
  obtain ⟨rfl, hcand⟩ := select_spec hc h
  obtain ⟨-, -, hclips, -, -, -, -, huse, -, hpool⟩ := id hc
  refine mapped_ok hc ?_ ?_ ?_ (huse'.le.trans huse) (hpool'.le.trans hpool) ?_
  · intro x _
    split <;> rfl
  · intro x hx
    split
    case isTrue hv => exact recycle_ok (hcand x hx hv) (hclips x hx).1
    case isFalse => exact (hclips x hx).1
  · intro x _ ho
    split at ho
    · simp [Clip.recycle] at ho
    · exact ho
  · intro u hu
    obtain ⟨h1, h2, ho⟩ := hr u hu
    obtain ⟨y, hy, hyo⟩ := (openClip_isSome_iff _).mp (hopen' ho)
    obtain ⟨x, hx, rfl⟩ := List.mem_map.mp hy
    exact ⟨h1, h2, x, hx, hyo⟩

theorem select_ok_keep {c c' : Catalogue} {need : Need} {vs : List Nat} (hc : c.Ok)
    (h : c.select need = some (vs, c')) : c'.Ok := by
  obtain ⟨-, -, -, -, -, -, hres, -⟩ := id hc
  have hok := select_ok hc h hres
  obtain ⟨rfl, -⟩ := select_spec hc h
  exact hok

end Catalogue
end Sys2Proof.Machine

namespace Sys2Proof.Machine
namespace Catalogue

/-! ### Reservation, progress, close and cut (R94 to R99) -/

theorem openClip_ok {c : Catalogue} {x : Clip} (hc : c.Ok) (h : c.openClip = some x) :
    x ∈ c.clips ∧ x.state = .opened ∧ x.Ok := by
  obtain ⟨hx, hst⟩ := openClip_mem h
  obtain ⟨-, -, hclips, -⟩ := hc
  exact ⟨hx, hst, (hclips x hx).1⟩

/-- A granted reservation adds units to the OPEN record; another may stay pending. -/
theorem grant_ok {c : Catalogue} {x : Clip} {u : Nat} {r : Option Nat} (hc : c.Ok) (hx : c.openClip = some x)
    (hfits : c.fits u = true) (hr : r = c.reservation ∨ r = none) :
    ({ c.grant x u with reservation := r } : Catalogue).Ok := by
  obtain ⟨hmem, hst, -⟩ := openClip_ok hc hx
  obtain ⟨-, -, -, -, -, -, -, huse, -, hpool⟩ := id hc
  have hfree : c.inUse + u ≤ c.card.capacity := by
    have hroom : c.card.floor + u ≤ c.card.capacity - c.inUse := of_decide_eq_true hfits
    omega
  refine onClip_ok hc u 0 (fun _ _ _ => rfl) ?_ (fun _ _ _ ho => ho) ?_ hfree (fun _ _ _ => le_rfl) hpool ?_
  · intro y hy hn hyok
    obtain ⟨h1, h2, h3, h4, -, h6, h7, h8, h9, h10⟩ := hyok
    have hyo : y.state = .opened := eq_of_number hc hmem hy hn.symm ▸ hst
    exact ⟨h1, h2, h3, h4, fun _ => hyo, h6, h7, h8, h9, h10⟩
  · intro y _ _
    simp only [Clip.units]
    omega
  · intro v hv
    rcases hr with rfl | rfl
    · exact ⟨hv, fun _ _ _ ho => ho⟩
    · cases hv

theorem progress_ok {c : Catalogue} {x : Clip} {n : Nat} (hc : c.Ok) (hx : c.openClip = some x)
    (hlo : x.committed ≤ n) (hhi : n ≤ x.committed + x.reserved) :
    (c.onClip x.number fun y =>
      { y with committed := n, reserved := x.reserved - (n - x.committed) }).Ok := by
  obtain ⟨hmem, hst, -⟩ := openClip_ok hc hx
  obtain ⟨-, -, -, -, -, -, -, huse, -, hpool⟩ := id hc
  refine onClip_ok (r := c.reservation) hc 0 0 (fun _ _ _ => rfl) ?_ (fun _ _ _ ho => ho) ?_ huse
    (fun _ _ _ => le_rfl) hpool fun u hu => ⟨hu, fun _ _ _ ho => ho⟩
  · intro y hy hn hyok
    obtain ⟨h1, h2, h3, h4, -, h6, h7, h8, h9, h10⟩ := hyok
    have hyo : y.state = .opened := eq_of_number hc hmem hy hn.symm ▸ hst
    exact ⟨h1, h2, h3, h4, fun _ => hyo, h6, h7, h8, h9, h10⟩
  · intro y hy hn
    obtain rfl := eq_of_number hc hmem hy hn.symm
    simp only [Clip.units]
    omega

/-- The OPEN record leaves its state with an end, and with it a pending reservation goes. -/
theorem ended_ok {c : Catalogue} {x : Clip} {f : Clip → Clip} (hc : c.Ok) (hx : c.openClip = some x)
    (hnum : ∀ y, (f y).number = y.number) (hst : ∀ y, (f y).state ≠ .opened)
    (hunits : ∀ y, (f y).units ≤ y.units) (hmarks : ∀ y, (f y).marks = y.marks)
    (hok : ∀ y : Clip, y.state = .opened → y.Ok → (f y).Ok) :
    ({ c.onClip x.number f with reservation := none } : Catalogue).Ok := by
  obtain ⟨hmem, hxst, -⟩ := openClip_ok hc hx
  obtain ⟨-, -, -, -, -, -, -, huse, -, hpool⟩ := id hc
  refine onClip_ok hc 0 0 (fun y _ _ => hnum y) ?_ (fun y _ _ ho => absurd ho (hst y)) (fun y _ _ => hunits y) huse
    (fun y _ _ => (congrArg List.length (hmarks y)).le) hpool (by simp)
  intro y hy hn hyok
  exact hok y (eq_of_number hc hmem hy hn.symm ▸ hxst) hyok

theorem close_ok {c : Catalogue} {x : Clip} (e : Stamp) (frames : Nat) (hc : c.Ok) (hx : c.openClip = some x) :
    ({ c.onClip x.number (fun y =>
        { y with state := .closed, ending := some e, frameCount := some frames, reserved := 0 }) with
      reservation := none } : Catalogue).Ok := by
  refine ended_ok hc hx (fun _ => rfl) (by simp) (fun y => ?_) (fun _ => rfl) fun y hst hy => ?_
  · simp only [Clip.units]
    omega
  · obtain ⟨h1, h2, h3, -, -, -, h7, h8, h9, h10⟩ := hy
    have hcut : y.cutCause = none := by simpa [hst] using h3
    exact ⟨h1, by simp, by simp [hcut], by simp, by simp, by simp, h7, h8, h9, h10⟩

theorem cutOpen_ok {c : Catalogue} {x : Clip} (cause : CutCause) (e : Stamp) (hc : c.Ok) (hx : c.openClip = some x) :
    (c.cutOpen x cause e).Ok := by
  refine ended_ok hc hx (fun _ => rfl) (by simp) (fun y => ?_) (fun _ => rfl) fun y hst hy => ?_
  · simp only [Clip.units]
    omega
  · obtain ⟨h1, h2, h3, h4, -, -, h7, h8, h9, h10⟩ := hy
    exact ⟨h1, by simp, by simp, by simpa [hst] using h4, by simp, by simp, h7, h8, h9, h10⟩

/-- R116: a user's mark joins the OPEN record where there is room. -/
theorem userMark_ok {c : Catalogue} {x : Clip} {m : Mark} (hc : c.Ok) (hx : c.openClip = some x) (hroom : c.room x = true)
    (hkind : m.kind = .user) (hpeak : m.peak = none) :
    (c.onClip x.number fun y => { y with marks := insertMark y.marks m }).Ok := by
  obtain ⟨hmem, -, -⟩ := openClip_ok hc hx
  obtain ⟨-, -, -, -, -, -, -, huse, -, -⟩ := id hc
  simp only [room, Bool.and_eq_true, decide_eq_true_eq] at hroom
  obtain ⟨hlen, hpool⟩ := hroom
  refine onClip_ok (r := c.reservation) hc 0 1 (fun _ _ _ => rfl) ?_ (fun _ _ _ ho => ho) (fun _ _ _ => le_rfl) huse
    (fun y _ _ => (insertMark_length y.marks m).le) hpool fun u hu => ⟨hu, fun _ _ _ ho => ho⟩
  intro y hy hn hyok
  obtain rfl := eq_of_number hc hmem hy hn.symm
  refine withMarks_ok (b := x.truncated) (by simp [hkind, hpeak]) (fun z => mem_insertMark) ?_ hyok
  rw [insertMark_length]
  omega

/-! ### Protection (R101, R102, R105) -/

theorem protect_ok {c : Catalogue} (n : Nat) (p : Protection) (hc : c.Ok)
    (hstate : ∀ x ∈ c.clips, x.number = n → x.state ≠ .recycling ∨ p = .none) :
    (c.onClip n fun y => { y with protection := p }).Ok := by
  refine onClip_ok_of_same hc (fun _ => rfl) (fun _ => rfl) (fun _ => rfl) (fun _ => rfl) fun x hx hn hxok => ?_
  obtain ⟨h1, h2, h3, h4, h5, -, h7, h8, h9, h10⟩ := hxok
  exact ⟨h1, h2, h3, h4, h5, fun hr => (hstate x hx hn).resolve_left fun h => h hr, h7, h8, h9, h10⟩

theorem crashProtect_same (x : Clip) : x.crashProtect.number = x.number ∧ x.crashProtect.state = x.state
    ∧ x.crashProtect.units = x.units ∧ x.crashProtect.marks.length = x.marks.length := by
  unfold Clip.crashProtect
  split <;> exact ⟨rfl, rfl, rfl, rfl⟩

theorem onClip_crashProtect_ok {c : Catalogue} (n : Nat) (hc : c.Ok) : (c.onClip n Clip.crashProtect).Ok := by
  refine onClip_ok_of_same hc (fun x => (crashProtect_same x).1) (fun x => (crashProtect_same x).2.1)
    (fun x => (crashProtect_same x).2.2.1) (fun x => (crashProtect_same x).2.2.2) fun x _ _ hx => ?_
  unfold Clip.crashProtect
  split
  · exact hx
  case isFalse hst =>
    obtain ⟨h1, h2, h3, h4, h5, -, h7, h8, h9, h10⟩ := hx
    exact ⟨h1, h2, h3, h4, h5, fun hr => absurd hr hst, h7, h8, h9, h10⟩

/-! ### Counting bands (R78) -/

theorem onClip_countBand_ok {c : Catalogue} (n : Nat) (r : CorrRec) (hc : c.Ok) :
    (c.onClip n (Clip.countBand r)).Ok := by
  refine onClip_ok_of_same hc (fun _ => rfl) (fun _ => rfl) (fun _ => rfl) (fun _ => rfl) fun x _ _ hx => ?_
  obtain ⟨h1, h2, h3, h4, h5, h6, h7, h8, h9, h10⟩ := hx
  exact ⟨h1, h2, h3, h4, h5, h6, State.count16_le h7, State.count16_le h8, h9, h10⟩

/-! ### Records that join and leave (R84, R92, R100, R103) -/

theorem sum_filter_le (l : List Clip) (p : Clip → Bool) (h : Clip → Nat) :
    ((l.filter p).map h).sum ≤ (l.map h).sum :=
  (List.filter_sublist.map h).sum_le_sum fun _ _ => Nat.zero_le _

/-- A record that is not OPEN leaves the catalogue. -/
theorem remove_ok {c : Catalogue} {n : Nat} (hc : c.Ok) (hst : ∀ x ∈ c.clips, x.number = n → x.state ≠ .opened) :
    (c.remove n).Ok := by
  obtain ⟨hlen, hpw, hclips, hn1, hn2, hone, hres, huse, hcap, hpool⟩ := hc
  have hsub : (c.remove n).clips.Sublist c.clips := List.filter_sublist
  refine ⟨hsub.length_le.trans hlen, hpw.sublist hsub, fun x hx => hclips x (hsub.subset hx), hn1, hn2,
    (hsub.filter _).length_le.trans hone, ?_, (sum_filter_le ..).trans huse, hcap, (sum_filter_le ..).trans hpool⟩
  intro u hu
  obtain ⟨h1, h2, ho⟩ := hres u hu
  obtain ⟨x, hx, hxo⟩ := (openClip_isSome_iff c).mp ho
  refine ⟨h1, h2, (openClip_isSome_iff _).mpr ⟨x, List.mem_filter.mpr ⟨hx, ?_⟩, hxo⟩⟩
  exact decide_eq_true fun hn => hst x hx hn hxo

/-- A new record is OPEN, the newest, and holds no units and no marks. -/
theorem append_ok {c : Catalogue} {x : Clip} (hc : c.Ok) (hopen : c.openClip.isSome = false) (hlen : c.clips.length < 128)
    (hnext : c.nextClip ≠ 4294967295) (hx : x.Ok) (hnum : x.number = c.nextClip) (hunits : x.units = 0)
    (hmarks : x.marks = []) :
    ({ c with clips := c.clips ++ [x], nextClip := c.nextClip + 1 } : Catalogue).Ok := by
  obtain ⟨-, hpw, hclips, hn1, hn2, -, hres, huse, hcap, hpool⟩ := hc
  have hnone : ∀ y ∈ c.clips, y.state ≠ .opened := fun y hy ho => by
    have := (openClip_isSome_iff c).mpr ⟨y, hy, ho⟩
    simp [hopen] at this
  refine ⟨?_, ?_, ?_, by simp, ?_, ?_, ?_, ?_, hcap, ?_⟩
  · simp only [List.length_append, List.length_singleton]
    omega
  · rw [List.pairwise_append]
    refine ⟨hpw, List.pairwise_singleton .., fun a ha b hb => ?_⟩
    rw [List.mem_singleton.mp hb, hnum]
    exact (hclips a ha).2
  · intro y hy
    rcases List.mem_append.mp hy with hy | hy
    · exact ⟨(hclips y hy).1, Nat.lt_succ_of_lt (hclips y hy).2⟩
    · rw [List.mem_singleton.mp hy, hnum]
      exact ⟨hx, Nat.lt_succ_self _⟩
  · show c.nextClip + 1 ≤ 4294967295
    omega
  · have hf : c.clips.filter (fun y => decide (y.state = .opened)) = [] :=
      List.filter_eq_nil_iff.mpr fun y hy => by simpa using hnone y hy
    simp only [List.filter_append, hf, List.nil_append]
    exact List.length_filter_le _ [x]
  · intro u hu
    obtain ⟨-, -, ho⟩ := hres u hu
    simp [hopen] at ho
  · simpa [inUse, unitsOf, hunits] using huse
  · simpa [poolSize, hmarks] using hpool

theorem card_ok {c : Catalogue} {card : Card} (hc : c.Ok) (hcap : card.capacity ≤ 16777216)
    (huse : c.inUse ≤ card.capacity) : ({ c with card := card } : Catalogue).Ok := by
  obtain ⟨h1, h2, h3, h4, h5, h6, h7, -, -, h10⟩ := hc
  exact ⟨h1, h2, h3, h4, h5, h6, h7, huse, hcap, h10⟩

theorem format_ok {c : Catalogue} (hc : c.Ok) (hopen : c.openClip.isSome = false) :
    ({ c with clips := [], card := Card.none } : Catalogue).Ok := by
  obtain ⟨-, -, -, h4, h5, -, h7, -, -, -⟩ := hc
  refine ⟨by simp, by simp, by simp, h4, h5, by simp, ?_, by simp [inUse, unitsOf], by simp [Card.none],
    by simp [poolSize]⟩
  intro u hu
  obtain ⟨-, -, ho⟩ := h7 u hu
  simp [hopen] at ho

theorem initial_ok : Catalogue.initial.Ok := by decide

end Catalogue
end Sys2Proof.Machine

namespace Sys2Proof.Machine
namespace State

@[reducible] def CatalogueOk (s : State) : Prop := s.catalogue.Ok

theorem catalogueOk_reads : Reads [.catalogue] CatalogueOk := by
  intro s t h hs
  simp only [List.forall_mem_cons, Piece.Same] at h
  obtain ⟨hc, -⟩ := h
  simpa only [CatalogueOk, hc] using hs

/-! ### Events -/

theorem shockMark_catalogueOk {s : State} (start : Tick) (peak : Nat) (band : Fin 4) (h : s.CatalogueOk) :
    (s.shockMark start peak band).CatalogueOk := by
  unfold shockMark
  split
  · exact ite_keeps (Catalogue.onClip_markClip_ok _ (by simp) h) h
  · exact h

theorem crashMark_catalogueOk {s : State} (n : Option Nat) (start : Tick) (peak : Nat) (h : s.CatalogueOk) :
    (s.crashMark n start peak).CatalogueOk := by
  unfold crashMark
  split
  · exact Catalogue.onClip_markClip_ok _ (by simp) h
  · exact h

theorem countBand_catalogueOk {s : State} (r : CorrRec) (h : s.CatalogueOk) : (s.countBand r).CatalogueOk := by
  unfold countBand
  split
  · exact ite_keeps (Catalogue.onClip_countBand_ok _ r h) h
  · exact h

theorem crashProtect_catalogueOk {s : State} (start : Tick) (h : s.CatalogueOk) :
    (s.crashProtect start).1.CatalogueOk := by
  unfold crashProtect
  dsimp only
  refine ite_fst_keeps h ?_
  split
  · split
    · exact Catalogue.onClip_crashProtect_ok _ (Catalogue.onClip_crashProtect_ok _ h)
    · exact Catalogue.onClip_crashProtect_ok _ h
  · split
    · exact ite_fst_keeps (Catalogue.onClip_crashProtect_ok _ h) h
    · exact h

theorem deliver_catalogueOk {s : State} (r : CorrRec) (h : s.CatalogueOk) : (s.deliver r).CatalogueOk := by
  unfold deliver
  exact countBand_catalogueOk r (ite_keeps (P := CatalogueOk) h h)

theorem formBand_catalogueOk {s : State} (b : Band) (x : Found) (h : s.CatalogueOk) : (s.formBand b x).CatalogueOk :=
  deliver_catalogueOk _ h

theorem examineN_catalogueOk (n : Nat) {s : State} (h : s.CatalogueOk) : (s.examineN n).CatalogueOk := by
  induction n generalizing s with
  | zero => exact h
  | succ n ih =>
    unfold examineN
    split
    · exact h
    · split
      · exact ih (formBand_catalogueOk _ _ h)
      · exact h

theorem examine_catalogueOk {s : State} (h : s.CatalogueOk) : s.examine.CatalogueOk := examineN_catalogueOk _ h

theorem force_catalogueOk (k : Nat) {s : State} (h : s.CatalogueOk) : (s.force k).CatalogueOk := by
  induction k generalizing s with
  | zero => exact h
  | succ k ih =>
    refine ih ?_
    unfold forceOldest
    split
    · exact h
    · exact formBand_catalogueOk _ _ h

theorem strobe_catalogueOk {s : State} (h : s.CatalogueOk) : s.strobe.CatalogueOk := by
  unfold strobe
  split
  · refine ite_keeps ?_ h
    refine examine_catalogueOk ?_
    exact force_catalogueOk _ h
  · exact h

theorem shockEvent_catalogueOk {s : State} (e : Episode) (h : s.CatalogueOk) : (s.shockEvent e).CatalogueOk :=
  shockMark_catalogueOk _ _ _ h

theorem crashEvent_catalogueOk {s : State} (w : Watch) (h : s.CatalogueOk) : (s.crashEvent w).CatalogueOk :=
  crashMark_catalogueOk _ _ _ (crashProtect_catalogueOk _ h)

theorem sample_catalogueOk {s : State} (x : Sample) (h : s.CatalogueOk) : (s.sample x).CatalogueOk := by
  rw [sample_eq]
  generalize hm : ({ s with motion := (s.motion.absorb x s.link.settings.pImu s.wheel.band).1 } : State) = u
  have hu : u.CatalogueOk := by
    subst hm
    exact h
  have hexamined := examine_catalogueOk hu
  split
  · exact ite_keeps (shockEvent_catalogueOk _ hexamined) (shockEvent_catalogueOk _ hexamined)
  · unfold crashCheck
    split
    · exact ite_keeps (crashEvent_catalogueOk _ hexamined) hexamined
    · exact hexamined

theorem motionStop_catalogueOk {s : State} (h : s.CatalogueOk) : s.motionStop.CatalogueOk := by
  unfold motionStop
  dsimp only
  split
  · exact shockEvent_catalogueOk _ h
  · exact h

/-! ### The link's fall and the seal -/

theorem linkDown_catalogueOk {s : State} (x : LinkState) (h : s.CatalogueOk) : (s.linkDown x).CatalogueOk := by
  have hdrop := catalogueOk_reads.keep (dropAll_touches s.link.queue s) rfl h
  unfold linkDown
  dsimp only
  split
  · exact motionStop_catalogueOk hdrop
  · exact hdrop

theorem linkStop_catalogueOk {s : State} (h : s.CatalogueOk) : s.linkStop.CatalogueOk :=
  ite_keeps h (linkDown_catalogueOk _ h)

theorem attemptFails_catalogueOk {s : State} (h : s.CatalogueOk) : s.attemptFails.CatalogueOk := by
  have hrec := linkDown_catalogueOk .recovering h
  exact ite_keeps hrec (catalogueOk_reads.keep (raise_touches _ _) rfl (linkDown_catalogueOk _ h))

theorem replay_catalogueOk {s : State} (i : Nat) (h : s.CatalogueOk) : (s.replay i).CatalogueOk :=
  catalogueOk_reads.keep (replay_touches s i) rfl h

theorem seal_catalogueOk {s : State} (cause : CutCause) (h : s.CatalogueOk) : (s.seal cause).CatalogueOk := by
  unfold State.seal
  cases hx : s.catalogue.openClip with
  | none => exact ite_keeps (P := CatalogueOk) h h
  | some x =>
    have hcut : (s.cutClip x cause).CatalogueOk := Catalogue.cutOpen_ok _ _ h hx
    exact ite_keeps (P := CatalogueOk) hcut hcut

theorem shutDown_catalogueOk {s : State} (cause : CutCause) (h : s.CatalogueOk) : (s.shutDown cause).CatalogueOk := by
  have hrail := catalogueOk_reads.keep (railGoesOff_touches _ (some .wrongState)) rfl (seal_catalogueOk cause h)
  have hstop := linkStop_catalogueOk hrail
  exact hstop

theorem round_catalogueOk {s : State} (r : RawMeas) (o : RoundOrder) (h : s.CatalogueOk) :
    (s.round r o).CatalogueOk := by
  refine round_keeps r o (catalogueOk_reads.keep (applyInput_touches _ _) rfl h) fun first changed w u hu => ?_
  cases w with
  | supply =>
    have hcut := shutDown_catalogueOk .hardCut hu
    exact judge_keeps hu (fun _ _ => ite_keeps hcut hcut)
      (fun _ _ => catalogueOk_reads.keep (enterFinishing_touches u) rfl hu) (fun _ _ _ => hu) fun _ => hu
  | input => exact ite_keeps (catalogueOk_reads.keep (chargeInput_touches u) rfl hu) hu
  | charge => exact catalogueOk_reads.keep (chargeAndGauge_touches ..) rfl hu

/-! ### The requests of the catalogue and of the Mark Pool -/

theorem reevaluate_catalogueOk {s : State} (h : s.CatalogueOk) : s.reevaluate.CatalogueOk := by
  unfold reevaluate
  dsimp only
  split
  case h_1 u x hu hx =>
    split
    case isTrue hfits => exact Catalogue.grant_ok h hx hfits (.inr rfl)
    split
    · exact h
    split
    case h_1 vs c hsel => exact Catalogue.select_ok_keep h hsel
    case h_2 =>
      obtain ⟨h1, h2, h3, h4, h5, h6, -, h8, h9, h10⟩ := h
      exact ⟨h1, h2, h3, h4, h5, h6, by simp, h8, h9, h10⟩
  case h_2 => exact h

theorem clipOpen_catalogueOk {s : State} (p : Port) (b : List Byte) (h : s.CatalogueOk) :
    (Machine.clipOpen p b s).1.CatalogueOk := by
  unfold Machine.clipOpen
  dsimp only
  split
  · exact h
  case isFalse hchecks =>
    rw [not_or] at hchecks
    obtain ⟨-, hopen⟩ := hchecks
    split
    · exact h
    split
    · split
      · split
        case h_1 vs c hsel =>
          exact Catalogue.select_ok_keep h hsel
        case h_2 => exact h
      · exact h
    case isFalse hlen =>
      split
      · exact h
      case isFalse hnext =>
        refine Catalogue.append_ok h (by simpa using hopen) (Nat.lt_of_not_le hlen) hnext ?_ rfl rfl rfl
        obtain ⟨-, -, -, h1, -⟩ := h
        exact ⟨h1, by simp [newClip], by simp [newClip], by simp [newClip], by simp [newClip], by simp [newClip],
          by simp [newClip], by simp [newClip], by simp [newClip], by simp [newClip]⟩

theorem clipReserve_catalogueOk {s : State} (p : Port) (b : List Byte) (h : s.CatalogueOk) :
    (Machine.clipReserve p b s).1.CatalogueOk := by
  unfold Machine.clipReserve
  dsimp only
  split
  · exact h
  case isFalse hu =>
    rw [not_or, Nat.not_lt] at hu
    split
    · exact h
    case h_2 x hx =>
      refine ite_fst_keeps h (ite_fst_keeps h ?_)
      split
      case isTrue hfits => exact Catalogue.grant_ok h hx hfits (.inl rfl)
      case isFalse =>
        split
        · split
          case h_1 vs c hsel =>
            refine Catalogue.select_ok h hsel fun u hmem => ?_
            cases hmem
            exact ⟨Nat.one_le_iff_ne_zero.mpr hu.1, hu.2, by simp [hx]⟩
          case h_2 => exact h
        · exact h

theorem clipProgress_catalogueOk {s : State} (p : Port) (b : List Byte) (h : s.CatalogueOk) :
    (Machine.clipProgress p b s).1.CatalogueOk := by
  unfold Machine.clipProgress
  dsimp only
  refine ite_fst_keeps h ?_
  split
  · exact h
  case h_2 x hx =>
    refine ite_fst_keeps h ?_
    split
    · exact h
    case isFalse hn =>
      rw [not_or, Nat.not_lt, Nat.not_lt] at hn
      exact Catalogue.progress_ok h hx hn.1 hn.2

theorem clipClose_catalogueOk {s : State} (p : Port) (b : List Byte) (h : s.CatalogueOk) :
    (Machine.clipClose p b s).1.CatalogueOk := by
  unfold Machine.clipClose
  dsimp only
  split
  · exact h
  case h_2 x hx => exact ite_fst_keeps h (Catalogue.close_ok _ _ h hx)

theorem cardSet_catalogueOk {s : State} (p : Port) (b : List Byte) (h : s.CatalogueOk) :
    (Machine.cardSet p b s).1.CatalogueOk := by
  unfold Machine.cardSet
  dsimp only
  split
  · exact h
  case isFalse hcap =>
    refine ite_fst_keeps h (ite_fst_keeps h (ite_fst_keeps h ?_))
    split
    · exact h
    case isFalse huse =>
      rw [not_or, Nat.not_lt] at hcap
      exact Catalogue.card_ok h hcap.1 (Nat.le_of_not_lt huse)

theorem formatCatalogue_catalogueOk {s : State} (p : Port) (b : List Byte) (h : s.CatalogueOk) :
    (Machine.formatCatalogue p b s).1.CatalogueOk := by
  unfold Machine.formatCatalogue
  split
  · exact h
  case isFalse hopen => exact ite_fst_keeps h (Catalogue.format_ok h (by simpa using hopen))

theorem markUser_catalogueOk {s : State} (p : Port) (b : List Byte) (h : s.CatalogueOk) :
    (Machine.markUser p b s).1.CatalogueOk := by
  unfold Machine.markUser
  split
  · exact h
  case h_2 x hx =>
    refine ite_fst_keeps h ?_
    split
    · exact h
    case isFalse hroom => exact Catalogue.userMark_ok h hx (by simpa using hroom) rfl rfl

theorem clipDeleted_catalogueOk {s : State} (p : Port) (b : List Byte) (h : s.CatalogueOk) :
    (Machine.clipDeleted p b s).1.CatalogueOk := by
  unfold Machine.clipDeleted
  dsimp only
  refine ite_fst_keeps h ?_
  split
  · exact h
  case h_2 x hx =>
    obtain ⟨hmem, hn⟩ := Catalogue.clip_mem hx
    split
    · exact h
    case isFalse hst =>
      rw [Decidable.not_not] at hst
      refine ite_fst_keeps h (reevaluate_catalogueOk (Catalogue.remove_ok h fun y hy hyn => ?_))
      obtain rfl := Catalogue.eq_of_number h hmem hy (hn.trans hyn.symm)
      simp [hst]

theorem clipProtect_catalogueOk {s : State} (p : Port) (b : List Byte) (h : s.CatalogueOk) :
    (Machine.clipProtect p b s).1.CatalogueOk := by
  unfold Machine.clipProtect
  dsimp only
  refine ite_fst_keeps h ?_
  split
  · exact h
  case h_2 x hx =>
    obtain ⟨hmem, hn⟩ := Catalogue.clip_mem hx
    split
    · exact h
    case isFalse hst =>
      refine ite_fst_keeps h (Catalogue.protect_ok _ _ h fun y hy hyn => .inl ?_)
      obtain rfl := Catalogue.eq_of_number h hmem hy (hn.trans hyn.symm)
      exact hst

theorem clipUnprotect_catalogueOk {s : State} (p : Port) (b : List Byte) (h : s.CatalogueOk) :
    (Machine.clipUnprotect p b s).1.CatalogueOk := by
  unfold Machine.clipUnprotect
  dsimp only
  refine ite_fst_keeps h ?_
  split
  · exact h
  · refine ite_fst_keeps h (ite_fst_keeps h (reevaluate_catalogueOk ?_))
    exact Catalogue.protect_ok _ _ h fun _ _ _ => .inr rfl

theorem clipForget_catalogueOk {s : State} (p : Port) (b : List Byte) (h : s.CatalogueOk) :
    (Machine.clipForget p b s).1.CatalogueOk := by
  unfold Machine.clipForget
  dsimp only
  refine ite_fst_keeps h ?_
  split
  · exact h
  case h_2 x hx =>
    obtain ⟨hmem, hn⟩ := Catalogue.clip_mem hx
    split
    · exact h
    case isFalse hst =>
      rw [not_or] at hst
      refine ite_fst_keeps h (reevaluate_catalogueOk (Catalogue.remove_ok h fun y hy hyn => ?_))
      obtain rfl := Catalogue.eq_of_number h hmem hy (hn.trans hyn.symm)
      exact hst.1

theorem railOff_catalogueOk {s : State} (p : Port) (b : List Byte) (h : s.CatalogueOk) :
    (Machine.railOff p b s).1.CatalogueOk := by
  refine ite_fst_keeps h (ite_fst_keeps h ?_)
  exact catalogueOk_reads.keep (railGoesOff_touches _ _) rfl (ite_keeps (seal_catalogueOk .forced h) h)

/-! ### POR (R127 to R129) -/

theorem por_catalogueOk {s : State} (v : Nat) (l : Level) (h : s.CatalogueOk) : (s.por v l).CatalogueOk := by
  show (storeAtPor s v).1.Ok
  unfold storeAtPor recover
  dsimp only
  split
  · split
    case h_1 x hx => exact Catalogue.cutOpen_ok _ _ h hx
    case h_2 => exact h
  · exact Catalogue.initial_ok

end State

open State

theorem exec_keeps_catalogue (c : Instr) (s t : State) (hs : s.CatalogueOk) (h : exec c s = .next t) :
    t.CatalogueOk := by
  have hfoot := exec_touches h
  cases c <;> dsimp only [exec] at h
  case por v l => cases h; exact por_catalogueOk v l hs
  case identityReadComplete v =>
    exact event_keeps h hs fun _ _ => ite_keeps (replay_catalogueOk 0 hs) (attemptFails_catalogueOk hs)
  case verifyReadComplete v =>
    refine whenPowered_keeps h hs fun _ => ?_
    unfold verified
    split
    · exact ite_keeps (replay_catalogueOk _ hs) (attemptFails_catalogueOk hs)
    · exact hs
  case stallExpiry => exact event_keeps h hs fun _ _ => attemptFails_catalogueOk hs
  case sampleBurstComplete b =>
    exact whenPowered_keeps h hs fun _ => burstDone_keeps catalogueOk_reads rfl b (fun x => sample_catalogueOk x hs) hs
  case fstCapture =>
    exact whenPowered_keeps h hs fun _ => strobe_catalogueOk (s := (s.capture .fst s.tick).emptied .fst) hs
  case bandDeadlineExpiry n i =>
    refine event_keeps h hs fun _ _ => examine_catalogueOk ?_
    exact hs
  case measurementRound r o => exact event_keeps h hs fun _ _ => round_catalogueOk r o hs
  case holdExpiry => exact event_keeps h hs fun _ _ => shutDown_catalogueOk _ hs
  case imuStop p f => exact doRequest_keeps catalogueOk_reads rfl (fun u hu => linkStop_catalogueOk hu) hs h
  case cardSet p f => exact doRequest_keeps catalogueOk_reads rfl (fun u hu => cardSet_catalogueOk p f.body hu) hs h
  case formatCatalogue p f =>
    exact doRequest_keeps catalogueOk_reads rfl (fun u hu => formatCatalogue_catalogueOk p f.body hu) hs h
  case clipOpen p f => exact doRequest_keeps catalogueOk_reads rfl (fun u hu => clipOpen_catalogueOk p f.body hu) hs h
  case clipReserve p f =>
    exact doRequest_keeps catalogueOk_reads rfl (fun u hu => clipReserve_catalogueOk p f.body hu) hs h
  case clipProgress p f =>
    exact doRequest_keeps catalogueOk_reads rfl (fun u hu => clipProgress_catalogueOk p f.body hu) hs h
  case clipClose p f => exact doRequest_keeps catalogueOk_reads rfl (fun u hu => clipClose_catalogueOk p f.body hu) hs h
  case clipDeleted p f =>
    exact doRequest_keeps catalogueOk_reads rfl (fun u hu => clipDeleted_catalogueOk p f.body hu) hs h
  case clipProtect p f =>
    exact doRequest_keeps catalogueOk_reads rfl (fun u hu => clipProtect_catalogueOk p f.body hu) hs h
  case clipUnprotect p f =>
    exact doRequest_keeps catalogueOk_reads rfl (fun u hu => clipUnprotect_catalogueOk p f.body hu) hs h
  case clipForget p f =>
    exact doRequest_keeps catalogueOk_reads rfl (fun u hu => clipForget_catalogueOk p f.body hu) hs h
  case markUser p f => exact doRequest_keeps catalogueOk_reads rfl (fun u hu => markUser_catalogueOk p f.body hu) hs h
  case railOff p f => exact doRequest_keeps catalogueOk_reads rfl (fun u hu => railOff_catalogueOk p f.body hu) hs h
  case generatorPeriodStart g => cases g <;> exact catalogueOk_reads.keep hfoot rfl hs
  case generatorWidthEnd g => cases g <;> exact catalogueOk_reads.keep hfoot rfl hs
  all_goals exact catalogueOk_reads.keep hfoot rfl hs

/-- Settles O53: what each operation does to the records (a change in place, a new record, one that leaves) keeps the
catalogue well formed, and the events that reach it, from a sample to a seal, are made of those operations. -/
theorem stepKeepsCatalogue : Obligations.StepKeepsCatalogue :=
  fun _ _ => step_keeps_of_exec catalogueOk_reads rfl exec_keeps_catalogue

end Sys2Proof.Machine

/-! # Every step keeps a WORKING slot its port's latest taking, owed exactly one completion (R189 to R191)

Between the taking of a request and its answer the port of the request owes nothing yet. `State.OwnersHeld h` says what
holds then: `OwnersOk`, but for the slot of the port `h`, if there is one. What an operation ends can only become less
(`SlotsOk.drop`): a completion leaves the slot when what owed it goes. -/

namespace Sys2Proof.Machine
namespace State

/-! ### The invariant with a request under way -/

/-- The takings of the queued IMU_ACCESSes of port `q`. -/
def queued (s : State) (q : Port) : List Nat :=
  (s.link.queue.filter fun a => a.ticket.port = q).map fun a => a.ticket.taking

theorem owed_eq (s : State) (q : Port) :
    s.owed q = (s.pair q).armed.toList ++ s.queued q ++ s.supply.rail.owedTo q := rfl

/-- The taking that port `q` waits for; the port `h` of a request under way waits for none yet. -/
def owing (s : State) (h : Option Port) (q : Port) : Option Nat := if h = some q then none else s.working q

/-- A waiting slot is owed exactly its own completion, and is the latest taking with no change since. -/
@[reducible] def SlotsOk (s : State) (h : Option Port) : Prop :=
  ∀ q, s.owed q = (s.owing h q).toList
    ∧ ∀ n ∈ s.owing h q, n = (s.port q).takings ∧ (s.port q).earlier = Earlier.none

/-- A pairing's timeout runs while it is armed, the ramp's while the rail is RAMPING. -/
@[reducible] def TimersOk (s : State) : Prop :=
  (∀ q, (s.pair q).timeout.isSome ↔ (s.pair q).armed.isSome)
  ∧ (s.supply.ramp.isSome ↔ s.supply.rail.isRamping = true)

/-- An IMU_ACCESS on the bus whose request still waits stands in the queue. -/
@[reducible] def BusOk (s : State) (h : Option Port) : Prop :=
  ∀ a ∈ s.link.bus.access, a.ticket.taking ≤ (s.port a.ticket.port).takings
    ∧ (s.owing h a.ticket.port = some a.ticket.taking → a ∈ s.link.queue)

@[reducible] def OwnersHeld (h : Option Port) (s : State) : Prop := s.SlotsOk h ∧ s.TimersOk ∧ s.BusOk h

@[simp] theorem owing_none (s : State) (q : Port) : s.owing none q = s.working q := by
  simp [owing]

@[simp] theorem owing_self (s : State) (q : Port) : s.owing (some q) q = none := by
  simp [owing]

theorem owing_of_ne (s : State) {h : Option Port} {q : Port} (hq : h ≠ some q) : s.owing h q = s.working q := by
  simp [owing, hq]

theorem inFlight_iff (s : State) (t : Ticket) : s.inFlight t = true ↔ s.working t.port = some t.taking := by
  unfold inFlight working
  cases (s.port t.port).slot <;> simp

theorem ownersOk_iff (s : State) : s.OwnersOk ↔ s.OwnersHeld none := by
  simp only [OwnersOk, PortOwners, OwnersHeld, SlotsOk, TimersOk, BusOk, owing_none, inFlight_iff]
  constructor
  · rintro ⟨⟨a1, a2, a3⟩, ⟨b1, b2, b3⟩, hr, hb⟩
    refine ⟨fun q => ?_, ⟨fun q => ?_, hr⟩, hb⟩ <;> cases q
    exacts [⟨a1, a3⟩, ⟨b1, b3⟩, a2, b2]
  · rintro ⟨hs, ⟨ht, hr⟩, hb⟩
    exact ⟨⟨(hs .a).1, ht .a, (hs .a).2⟩, ⟨(hs .b).1, ht .b, (hs .b).2⟩, hr, hb⟩

/-! ### What each part reads -/

theorem port_same {s t : State} (h : Piece.Same s t .slots) (q : Port) : (s.port q).SameSlot (t.port q) := by
  cases q
  exacts [h.1, h.2]

theorem working_same {s t : State} (h : Piece.Same s t .slots) (q : Port) : t.working q = s.working q := by
  obtain ⟨hs, -, -⟩ := port_same h q
  simp only [working, hs]

theorem owing_same {s t : State} (h : Piece.Same s t .slots) (x : Option Port) (q : Port) :
    t.owing x q = s.owing x q := by
  simp only [owing, working_same h]

theorem slotsOk_reads (h : Option Port) : Reads [.slots, .pairs, .queue, .rail] (fun s => s.SlotsOk h) := by
  intro s t hsame hs q
  have hslots := hsame .slots (by simp)
  obtain ⟨hpa, hpb⟩ := hsame .pairs (by simp)
  have hq : t.link.queue = s.link.queue := hsame .queue (by simp)
  obtain ⟨hr, -⟩ := hsame .rail (by simp)
  have hpair : t.pair q = s.pair q := by
    cases q
    exacts [hpa, hpb]
  obtain ⟨-, he, ht⟩ := port_same hslots q
  have howed : t.owed q = s.owed q := by
    simp only [owed_eq, queued, hpair, hq, hr]
  simpa only [howed, owing_same hslots, he, ht] using hs q

theorem timersOk_reads : Reads [.pairs, .rail] TimersOk := by
  intro s t hsame hs
  obtain ⟨hpa, hpb⟩ := hsame .pairs (by simp)
  obtain ⟨hr, hramp⟩ := hsame .rail (by simp)
  have hpair (q : Port) : t.pair q = s.pair q := by
    cases q
    exacts [hpa, hpb]
  simpa only [TimersOk, hpair, hr, hramp] using hs

theorem busOk_reads (h : Option Port) : Reads [.slots, .bus, .queue] (fun s => s.BusOk h) := by
  intro s t hsame hs
  have hslots := hsame .slots (by simp)
  have hb : t.link.bus = s.link.bus := hsame .bus (by simp)
  have hq : t.link.queue = s.link.queue := hsame .queue (by simp)
  intro a ha
  obtain ⟨-, -, ht⟩ := port_same hslots a.ticket.port
  simpa only [owing_same hslots, ht, hq] using hs a (hb ▸ ha)

theorem ownersHeld_reads (h : Option Port) : Reads [.slots, .pairs, .queue, .rail, .bus] (OwnersHeld h) := by
  intro s t hsame ⟨hs, ht, hb⟩
  exact ⟨Reads.mono (slotsOk_reads h) (by decide) hsame hs, timersOk_reads.mono (by decide) hsame ht,
    Reads.mono (busOk_reads h) (by decide) hsame hb⟩

/-! ### What is owed comes from one part -/

theorem owed_parts {a : Option Nat} {b c : List Nat} {n : Nat} (h : a.toList ++ b ++ c = [n]) :
    (a = some n ∧ b = [] ∧ c = []) ∨ (a = none ∧ b = [n] ∧ c = []) ∨ (a = none ∧ b = [] ∧ c = [n]) := by
  cases a with
  | some x => simp_all
  | none =>
    simp only [Option.toList_none, List.nil_append, List.append_eq_singleton_iff] at h
    tauto

/-- What a part of the machine owes a port, the port waits for. -/
theorem owing_of_mem {s : State} {h : Option Port} (hs : s.SlotsOk h) {q : Port} {n : Nat} (hn : n ∈ s.owed q) :
    s.owing h q = some n := by
  rw [(hs q).1, Option.mem_toList] at hn
  exact hn

theorem owed_of_owing {s : State} {h : Option Port} (hs : s.SlotsOk h) {q : Port} {n : Nat} (hn : s.owing h q = some n) :
    s.owed q = [n] := by
  rw [(hs q).1, hn]
  rfl

theorem working_of_owing {s : State} {h : Option Port} {q : Port} {n : Nat} (hn : s.owing h q = some n) :
    h ≠ some q ∧ s.working q = some n := by
  by_cases hq : h = some q
  · simp [owing, hq] at hn
  · exact ⟨hq, owing_of_ne s hq ▸ hn⟩

theorem mem_queued {s : State} {a : Access} (ha : a ∈ s.link.queue) : a.ticket.taking ∈ s.queued a.ticket.port :=
  List.mem_map.mpr ⟨a, List.mem_filter.mpr ⟨ha, by simp⟩, rfl⟩

theorem mem_queued_iff {s : State} {q : Port} {n : Nat} :
    n ∈ s.queued q ↔ ∃ a ∈ s.link.queue, a.ticket.port = q ∧ a.ticket.taking = n := by
  simp [queued, and_assoc]

theorem queued_owed {s : State} {q : Port} {n : Nat} (h : n ∈ s.queued q) : n ∈ s.owed q := by
  simp [owed_eq, h]

/-! ### What ends can only become less -/

/-- From `s` to `t` slots have only stopped waiting. -/
structure Settles (s t : State) : Prop where
  takings : ∀ q, (t.port q).takings = (s.port q).takings
  working : ∀ q n, t.working q = some n → s.working q = some n
    ∧ ((s.port q).earlier = Earlier.none → (t.port q).earlier = Earlier.none)

theorem Settles.trans {s t u : State} (h : Settles s t) (g : Settles t u) : Settles s u := by
  refine ⟨fun q => (g.takings q).trans (h.takings q), fun q n hn => ?_⟩
  obtain ⟨ht, hte⟩ := g.working q n hn
  obtain ⟨hs, hse⟩ := h.working q n ht
  exact ⟨hs, hte ∘ hse⟩

theorem Settles.of_same {s t : State} (h : Piece.Same s t .slots) : Settles s t := by
  refine ⟨fun q => (port_same h q).2.2, fun q n hn => ?_⟩
  rw [working_same h] at hn
  exact ⟨hn, fun he => (port_same h q).2.1.trans he⟩

theorem Settles.owing {s t : State} (hst : Settles s t) {h : Option Port} {q : Port} {n : Nat}
    (hn : t.owing h q = some n) : s.owing h q = some n := by
  obtain ⟨hq, hw⟩ := working_of_owing hn
  rw [owing_of_ne s hq]
  exact (hst.working q n hw).1

/-- Slots that stop waiting when what owed them goes. -/
theorem SlotsOk.drop {s t : State} {h : Option Port} (hs : s.SlotsOk h) (hst : Settles s t)
    (hsub : ∀ q, (t.owed q).Sublist (s.owed q))
    (hiff : ∀ q n, s.owing h q = some n → (t.owing h q = some n ↔ n ∈ t.owed q)) : t.SlotsOk h := by
  intro q
  obtain ⟨howed, hlast⟩ := hs q
  refine ⟨?_, fun n hn => ?_⟩
  · have hq := hsub q
    cases hw : s.owing h q with
    | none =>
      rw [howed, hw, Option.toList_none, List.sublist_nil] at hq
      cases ht : t.owing h q with
      | none => exact hq
      | some n => simp [hst.owing ht] at hw
    | some n =>
      have hn := hiff q n hw
      rw [howed, hw, Option.toList_some] at hq
      cases ht : t.owing h q with
      | some m =>
        have hm : m = n := Option.some_inj.mp ((hst.owing ht).symm.trans hw)
        subst hm
        exact (List.sublist_singleton.mp hq).resolve_left fun hnil => by simp [hnil, ht] at hn
      | none =>
        refine (List.sublist_singleton.mp hq).resolve_right fun hone => ?_
        simp [hone, ht] at hn
  · obtain ⟨hq, hw⟩ := working_of_owing hn
    obtain ⟨h1, h2⟩ := hlast n (hst.owing hn)
    rw [hst.takings q]
    exact ⟨h1, (hst.working q n hw).2 h2⟩

/-- A transfer of the bus that goes on needs its request in the queue only while the request waits. -/
theorem BusOk.drop {s t : State} {h : Option Port} (hb : s.BusOk h) (hst : Settles s t) (hbus : t.link.bus = s.link.bus)
    (hq : ∀ a ∈ s.link.queue, t.owing h a.ticket.port = some a.ticket.taking → a ∈ t.link.queue) : t.BusOk h := by
  intro a ha
  rw [hbus] at ha
  obtain ⟨h1, h2⟩ := hb a ha
  rw [hst.takings]
  exact ⟨h1, fun hw => hq a (h2 (hst.owing hw)) hw⟩

theorem busOk_of_none {s : State} {h : Option Port} (hb : s.link.bus.access = none) : s.BusOk h := by
  intro a ha
  rw [hb] at ha
  cases ha

/-! ### Completions, and the slots of the ports -/

theorem port_setPort_eq (s : State) (p q : Port) (x : PortState) :
    (s.setPort p x).port q = if q = p then x else s.port q := by
  cases p <;> cases q <;> rfl

theorem working_iff (s : State) (q : Port) (n : Nat) : s.working q = some n ↔ ∃ c, (s.port q).slot = .working c n := by
  unfold working
  split
  case h_1 c m hs => simp [hs]
  case h_2 hs => simpa using fun c hc => hs c n hc

theorem working_setPort_iff (s : State) (p q : Port) (x : PortState) (n : Nat) : (s.setPort p x).working q = some n ↔
    if q = p then ∃ c, x.slot = .working c n else s.working q = some n := by
  rw [working_iff, port_setPort_eq]
  by_cases h : q = p
  · rw [if_pos h, if_pos h]
  · rw [if_neg h, if_neg h, working_iff]

/-- An answer in a slot: the slot stops waiting. -/
theorem finish_settles (s : State) (p : Port) (a : Answer) :
    Settles s (s.finish p a) ∧ ∀ q n, (s.finish p a).working q = some n ↔ q ≠ p ∧ s.working q = some n := by
  have hw (q : Port) (n : Nat) : (s.finish p a).working q = some n ↔ q ≠ p ∧ s.working q = some n := by
    rw [finish, working_setPort_iff]
    by_cases h : q = p <;> simp [h]
  refine ⟨⟨fun q => ?_, fun q n hn => ?_⟩, hw⟩
  · simp only [finish, port_setPort_eq]
    split
    case isTrue h => rw [h, PortState.change_takings]
    case isFalse => rfl
  · obtain ⟨hq, hs⟩ := (hw q n).mp hn
    refine ⟨hs, ?_⟩
    simp only [finish, port_setPort_eq, if_neg hq]
    exact id

/-- A completion ends the wait of its own request alone. -/
theorem complete_settles (s : State) (t : Ticket) (st : Status) (b : List Byte) :
    Settles s (s.complete t st b)
    ∧ ∀ q n, (s.complete t st b).working q = some n ↔ s.working q = some n ∧ ¬ (q = t.port ∧ n = t.taking) := by
  obtain h | ⟨c, hc, h⟩ := complete_cases s t st b
  · rw [h]
    refine ⟨Settles.of_same ((Touches.refl [] s).same .slots (by decide)), fun q n => ⟨fun hn => ⟨hn, ?_⟩, And.left⟩⟩
    rintro ⟨rfl, rfl⟩
    obtain ⟨c, hc⟩ := (working_iff ..).mp hn
    rw [complete_own st b hc] at h
    have hslot : ((s.finish t.port { status := st, kind := c, body := b }).port t.port).slot = (s.port t.port).slot := by
      rw [h]
    simp [finish, hc] at hslot
  · rw [h]
    obtain ⟨hset, hw⟩ := finish_settles s t.port { status := st, kind := c, body := b }
    refine ⟨hset, fun q n => ?_⟩
    rw [hw]
    constructor
    · rintro ⟨hq, hn⟩
      exact ⟨hn, fun hqn => hq hqn.1⟩
    · rintro ⟨hn, hne⟩
      refine ⟨?_, hn⟩
      rintro rfl
      obtain ⟨c', hc'⟩ := (working_iff ..).mp hn
      rw [hc] at hc'
      cases hc'
      exact hne ⟨rfl, rfl⟩

end State
end Sys2Proof.Machine

namespace Sys2Proof.Machine
namespace State

/-! ### The two ways a pairing completes (R9, R10) -/

theorem pair_setPair_eq (s : State) (p q : Port) (x : Pairing) :
    (s.setPair p x).pair q = if q = p then x else s.pair q := by
  cases p <;> cases q <;> rfl

theorem pair_complete (s : State) (t : Ticket) (st : Status) (b : List Byte) (q : Port) :
    (s.complete t st b).pair q = s.pair q := by
  obtain ⟨ha, hb⟩ := (complete_touches s t st b).same .pairs (by decide)
  cases q
  exacts [ha, hb]

theorem owed_complete (s : State) (t : Ticket) (st : Status) (b : List Byte) (q : Port) :
    (s.complete t st b).owed q = s.owed q := by
  have hq : (s.complete t st b).link.queue = s.link.queue := (complete_touches s t st b).same .queue (by decide)
  have hr : (s.complete t st b).supply.rail = s.supply.rail := ((complete_touches s t st b).same .rail (by decide)).1
  simp only [owed_eq, queued, pair_complete, hq, hr]

theorem endPairing_held {s : State} {h : Option Port} (p : Port) (st : Status) (b : List Byte) (hs : s.OwnersHeld h) :
    (s.endPairing p st b).OwnersHeld h := by
  unfold endPairing
  cases harmed : (s.pair p).armed with
  | none => exact hs
  | some n =>
    obtain ⟨hslots, htimers, hbus⟩ := hs
    have hpair := setPair_touches s p Pairing.disarmed
    obtain ⟨hset, hw⟩ := complete_settles (s.setPair p Pairing.disarmed) { port := p, taking := n } st b
    have hsettles := (Settles.of_same (hpair.same .slots (by decide))).trans hset
    have hworking (q : Port) : (s.setPair p Pairing.disarmed).working q = s.working q :=
      working_same (hpair.same .slots (by decide)) q
    have howed (q : Port) : (s.setPair p Pairing.disarmed).owed q
        = (if q = p then none else (s.pair q).armed).toList ++ s.queued q ++ s.supply.rail.owedTo q := by
      have hq : (s.setPair p Pairing.disarmed).link.queue = s.link.queue := hpair.same .queue (by decide)
      have hr : (s.setPair p Pairing.disarmed).supply.rail = s.supply.rail := (hpair.same .rail (by decide)).1
      simp only [owed_eq, queued, pair_setPair_eq, hq, hr]
      split <;> rfl
    refine ⟨hslots.drop hsettles (fun q => ?_) (fun q m hm => ?_), ⟨fun q => ?_, ?_⟩, hbus.drop hsettles ?_ ?_⟩
    · rw [owed_complete, howed, owed_eq]
      by_cases hq : q = p
      · simp [hq]
      · simp [hq]
    · obtain ⟨hne, hwm⟩ := working_of_owing hm
      rw [owed_complete, howed, owing_of_ne _ hne, hw, hworking]
      have hone := owed_of_owing hslots hm
      by_cases hq : q = p
      · subst hq
        rw [owed_eq] at hone
        obtain ⟨ha, hqu, hr⟩ | ⟨ha, -⟩ | ⟨ha, -⟩ := owed_parts hone
        · have hnm : n = m := Option.some_inj.mp (harmed.symm.trans ha)
          simp [hqu, hr, hnm]
        · simp [harmed] at ha
        · simp [harmed] at ha
      · rw [if_neg hq, ← owed_eq, hone]
        simp [hwm, hq]
    · rw [pair_complete, pair_setPair_eq]
      split
      · simp [Pairing.disarmed]
      · exact htimers.1 q
    · obtain ⟨hr, hramp⟩ := (complete_touches (s.setPair p Pairing.disarmed) { port := p, taking := n } st b).same .rail
        (by decide)
      obtain ⟨hr', hramp'⟩ := hpair.same .rail (by decide)
      rw [hr, hr', hramp, hramp']
      exact htimers.2
    · exact ((complete_touches ..).same .bus (by decide)).trans (hpair.same .bus (by decide))
    · intro a ha _
      have hq : ((s.setPair p Pairing.disarmed).complete { port := p, taking := n } st b).link.queue = s.link.queue :=
        ((complete_touches ..).same .queue (by decide)).trans (hpair.same .queue (by decide))
      rwa [hq]

/-! ### The arbiter (R34, R36) -/

/-- The head of the queue is a request that waits, so the arbiter puts on the bus what stands in the queue. -/
theorem serveBus_busOk {s : State} {h : Option Port} (gap : Bool) (hs : s.SlotsOk h) : (s.serveBus gap).BusOk h := by
  unfold serveBus
  split
  · exact busOk_of_none rfl
  · split
    case h_1 a l hq =>
      intro x hx
      cases hx
      have hmem : a ∈ s.link.queue := by simp [hq]
      have how := owing_of_mem hs (queued_owed (mem_queued hmem))
      exact ⟨((hs _).2 _ how).1.le, fun _ => hmem⟩
    case h_2 => exact busOk_of_none rfl

theorem serveBus_held {s : State} {h : Option Port} (gap : Bool) (hs : s.SlotsOk h) (ht : s.TimersOk) :
    (s.serveBus gap).OwnersHeld h :=
  ⟨Reads.keep (slotsOk_reads h) (serveBus_touches s gap) rfl hs, timersOk_reads.keep (serveBus_touches s gap) rfl ht,
    serveBus_busOk gap hs⟩

theorem mem_queued_filter {s : State} (t : Ticket) (q : Port) (n : Nat) :
    n ∈ queued { s with link := { s.link with queue := s.link.queue.filter fun a => a.ticket != t } } q
      ↔ n ∈ s.queued q ∧ ¬ (q = t.port ∧ n = t.taking) := by
  simp only [mem_queued_iff, List.mem_filter]
  constructor
  · rintro ⟨a, ⟨ha, hne⟩, rfl, rfl⟩
    refine ⟨⟨a, ha, rfl, rfl⟩, fun ⟨hp, hn⟩ => ?_⟩
    rw [bne_iff_ne] at hne
    exact hne (by cases t; cases hat : a.ticket; simp_all)
  · rintro ⟨⟨a, ha, rfl, rfl⟩, hne⟩
    refine ⟨a, ⟨ha, bne_iff_ne.mpr fun heq => hne ?_⟩, rfl, rfl⟩
    rw [heq]
    exact ⟨rfl, rfl⟩

theorem queued_filter_sublist (s : State) (t : Ticket) (q : Port) :
    (queued { s with link := { s.link with queue := s.link.queue.filter fun a => a.ticket != t } } q).Sublist
      (s.queued q) :=
  ((List.filter_sublist).filter _).map _

/-- A completed pass-through leaves the queue, and with it its request's wait ends. -/
theorem passDone_held {s : State} {h : Option Port} (v : Byte) (hs : s.OwnersHeld h) :
    (s.passDone v).OwnersHeld h := by
  unfold passDone
  split
  case h_2 => exact hs
  case h_1 a hbusa =>
    obtain ⟨hslots, htimers, hbus⟩ := hs
    have hacc : a ∈ s.link.bus.access := by simp [hbusa, Bus.access]
    dsimp only
    generalize hu : s.complete a.ticket .ok [a.addr, if a.write then a.data else v] = u
    have hfoot : Touches [.slots] s u := hu ▸ complete_touches ..
    obtain ⟨hset, hw⟩ := complete_settles s a.ticket .ok [a.addr, if a.write then a.data else v]
    rw [hu] at hset hw
    have howed (q : Port) : u.owed q = s.owed q := hu ▸ owed_complete ..
    have hslots' : SlotsOk { u with link := { u.link with queue := u.link.queue.filter fun x => x.ticket != a.ticket } }
        h := by
      refine hslots.drop (hset.trans (Settles.of_same ?_)) (fun q => ?_) fun q n hn => ?_
      · simp
      · rw [← howed q, owed_eq, owed_eq]
        exact ((List.Sublist.refl _).append (queued_filter_sublist ..)).append (List.Sublist.refl _)
      · obtain ⟨hne, hwn⟩ := working_of_owing hn
        have hone := owed_of_owing hslots hn
        rw [← howed q, owed_eq] at hone
        have hleft : State.owing { u with link := { u.link with
            queue := u.link.queue.filter fun x => x.ticket != a.ticket } } h q = some n
            ↔ ¬ (q = a.ticket.port ∧ n = a.ticket.taking) := by
          rw [owing_of_ne _ hne]
          exact (hw q n).trans (by simp [hwn])
        rw [hleft, owed_eq, List.mem_append, List.mem_append, mem_queued_filter]
        change _ ↔ (n ∈ (u.pair q).armed.toList ∨ _) ∨ n ∈ u.supply.rail.owedTo q
        by_cases hq : q = a.ticket.port ∧ n = a.ticket.taking
        · obtain ⟨rfl, rfl⟩ := hq
          have hin := (hbus a hacc).2 hn
          have hqueued : a.ticket.taking ∈ u.queued a.ticket.port := by
            have hqe : u.link.queue = s.link.queue := hfoot.same .queue (by decide)
            simpa only [queued, hqe] using mem_queued hin
          obtain ⟨-, hqn, -⟩ | ⟨ha, -, hr⟩ | ⟨-, hqn, -⟩ := owed_parts hone
          · simp [hqn] at hqueued
          · simp [ha, hr]
          · simp [hqn] at hqueued
        · obtain ⟨ha, -, -⟩ | ⟨-, hqn, -⟩ | ⟨-, -, hr⟩ := owed_parts hone
          · simp [ha, hq]
          · simp [hqn, hq]
          · simp [hr, hq]
    have htimers' : u.TimersOk := timersOk_reads.keep hfoot rfl htimers
    exact serveBus_held _ hslots' htimers'

/-! ### The link's fall (R25, R28) -/

theorem dropAll_settles (l : List Access) (s : State) : Settles s (l.foldl dropAccess s)
    ∧ ∀ q n, (l.foldl dropAccess s).working q = some n
      ↔ s.working q = some n ∧ ¬ ∃ a ∈ l, a.ticket.port = q ∧ a.ticket.taking = n := by
  induction l generalizing s with
  | nil => exact ⟨Settles.of_same (by simp), fun q n => by simp⟩
  | cons a l ih =>
    obtain ⟨hset, hw⟩ := complete_settles s a.ticket .wrongState [a.addr]
    obtain ⟨hset', hw'⟩ := ih (s.dropAccess a)
    refine ⟨hset.trans hset', fun q n => (hw' q n).trans ?_⟩
    rw [show (s.dropAccess a).working q = some n ↔ _ from hw q n]
    simp only [List.mem_cons, exists_eq_or_imp, not_or, and_assoc]
    rw [eq_comm (a := q), eq_comm (a := n)]

theorem linkDown_held {s : State} {h : Option Port} (x : LinkState) (hs : s.OwnersHeld h) :
    (s.linkDown x).OwnersHeld h := by
  obtain ⟨hslots, htimers, -⟩ := hs
  have hfoot := dropAll_touches s.link.queue s
  obtain ⟨hset, hw⟩ := dropAll_settles s.link.queue s
  generalize hu : s.link.queue.foldl dropAccess s = u at hfoot hset hw
  have hdropped : ({ u.emptied .drdy with link := { u.link with
      state := x, bus := .free, queue := [], replaced := false, startup := none, recovery := none
      stall := none } } : State).OwnersHeld h := by
    have htimers' : u.TimersOk := timersOk_reads.keep hfoot rfl htimers
    refine ⟨hslots.drop (hset.trans (Settles.of_same (by simp))) (fun q => ?_) (fun q n hn => ?_), htimers',
      busOk_of_none rfl⟩
    all_goals
      obtain ⟨hpa, hpb⟩ := hfoot.same .pairs (by decide)
      obtain ⟨hr, -⟩ := hfoot.same .rail (by decide)
      have hpair : u.pair q = s.pair q := by
        cases q
        exacts [hpa, hpb]
    · rw [owed_eq, owed_eq]
      change ((u.pair q).armed.toList ++ [] ++ u.supply.rail.owedTo q).Sublist _
      rw [hpair, hr, List.append_nil]
      exact (List.sublist_append_left _ _).append (List.Sublist.refl _)
    · obtain ⟨hne, hwn⟩ := working_of_owing hn
      rw [owing_of_ne _ hne, owed_eq]
      change u.working q = some n ↔ n ∈ (u.pair q).armed.toList ++ [] ++ u.supply.rail.owedTo q
      rw [hw, ← mem_queued_iff, hpair, hr]
      have hone := owed_of_owing hslots hn
      rw [owed_eq] at hone
      obtain ⟨ha, hq, hr0⟩ | ⟨ha, hq, hr0⟩ | ⟨ha, hq, hr0⟩ := owed_parts hone <;> simp [ha, hq, hr0, hwn]
  unfold linkDown
  dsimp only
  rw [hu]
  split
  · exact Reads.keep (ownersHeld_reads h) (motionStop_touches _) rfl hdropped
  · exact hdropped

theorem linkStop_held {s : State} {h : Option Port} (hs : s.OwnersHeld h) : s.linkStop.OwnersHeld h :=
  ite_keeps hs (linkDown_held _ hs)

theorem attemptFails_held {s : State} {h : Option Port} (hs : s.OwnersHeld h) : s.attemptFails.OwnersHeld h := by
  have hrec := linkDown_held .recovering hs
  exact ite_keeps hrec (Reads.keep (ownersHeld_reads h) (raise_touches _ _) rfl (linkDown_held .failed hs))

/-- A bus that carries no IMU_ACCESS leaves nothing to be said of it. -/
theorem onBus_held {s : State} {h : Option Port} {b : Bus} (hb : b.access = none) (hs : s.OwnersHeld h) :
    (s.onBus b).OwnersHeld h :=
  ⟨Reads.keep (slotsOk_reads h) (onBus_touches s b) rfl hs.1, timersOk_reads.keep (onBus_touches s b) rfl hs.2.1,
    busOk_of_none hb⟩

theorem replay_held {s : State} {h : Option Port} (i : Nat) (hs : s.OwnersHeld h) : (s.replay i).OwnersHeld h := by
  unfold replay
  split
  · exact onBus_held rfl hs
  · obtain ⟨hslots, htimers, -⟩ := hs
    have hfoot := enterRunning_touches s
    refine ⟨Reads.keep (slotsOk_reads h) hfoot rfl hslots, timersOk_reads.keep hfoot rfl htimers, busOk_of_none ?_⟩
    exact ite_keeps (P := fun u : State => u.link.bus.access = none) rfl rfl

end State
end Sys2Proof.Machine

namespace Sys2Proof.Machine
namespace State

/-! ### The abandonment of a slot (R193) -/

/-- The slot and the channel of `p` after an abandonment: the slot empty, the TIME_PAIR it held disarmed. -/
theorem abandon_port (s : State) (p q : Port) :
    (s.abandon p).port q = if q = p then (s.port p).change .empty else s.port q := by
  unfold abandon
  dsimp only
  split
  · split <;> cases p <;> cases q <;> rfl
  · cases p <;> cases q <;> rfl

theorem abandon_pair (s : State) (p q : Port) : (s.abandon p).pair q =
    if q = p ∧ ∃ n, s.working p = some n ∧ (s.pair p).armed = some n then Pairing.disarmed else s.pair q := by
  unfold abandon
  dsimp only
  split
  case h_1 c n hslot =>
    have hw : s.working p = some n := (working_iff ..).mpr ⟨c, hslot⟩
    simp only [pair_setPort, hw, Option.some_inj, exists_eq_left']
    by_cases ha : (s.pair p).armed = some n
    · rw [if_pos ha]
      change (State.setPair (s.setPort p _) p Pairing.disarmed).pair q = _
      rw [pair_setPair_eq, pair_setPort]
      simp [ha]
    · rw [if_neg ha, if_neg fun h => ha h.2]
      exact pair_setPort ..
  case h_2 hslot =>
    rw [if_neg, pair_setPort]
    rintro ⟨-, n, hn, -⟩
    obtain ⟨c, hc⟩ := (working_iff ..).mp hn
    exact hslot c n hc

theorem abandon_queue (s : State) (p : Port) : (s.abandon p).link.queue =
    s.link.queue.filter fun a => decide (s.working p ≠ some a.ticket.taking ∨ a.ticket.port ≠ p) := by
  have hticket (t : Ticket) (n : Nat) : (t != ({ port := p, taking := n } : Ticket))
      = decide (some n ≠ some t.taking ∨ t.port ≠ p) := by
    rw [Bool.eq_iff_iff, bne_iff_ne, decide_eq_true_iff]
    cases t
    simp only [ne_eq, Ticket.mk.injEq, Option.some_inj]
    tauto
  unfold abandon
  dsimp only
  split
  case h_1 c n hslot =>
    have hw : s.working p = some n := (working_iff ..).mpr ⟨c, hslot⟩
    simp only [hw, ← hticket]
    split
    · cases p <;> rfl
    · cases p <;> rfl
  case h_2 hslot =>
    have hw : ∀ n, s.working p ≠ some n := fun n hn => by
      obtain ⟨c, hc⟩ := (working_iff ..).mp hn
      exact hslot c n hc
    simp only [hw, ne_eq, not_false_eq_true, true_or, decide_true, List.filter_true]
    cases p <;> rfl

theorem abandon_working (s : State) (p q : Port) :
    (s.abandon p).working q = if q = p then none else s.working q := by
  simp only [working, abandon_port]
  by_cases h : q = p
  · simp [h]
  · simp only [if_neg h]

theorem abandon_settles (s : State) (p : Port) : Settles s (s.abandon p) := by
  refine ⟨fun q => ?_, fun q n hn => ?_⟩
  · rw [abandon_port]
    split
    case isTrue h => rw [h, PortState.change_takings]
    case isFalse => rfl
  · rw [abandon_working] at hn
    split at hn
    · cases hn
    case isFalse h =>
      rw [abandon_port, if_neg h]
      exact ⟨hn, id⟩

theorem abandon_rail (s : State) (p : Port) : (s.abandon p).supply.rail = s.supply.rail :=
  ((abandon_touches s p).same .rail (by decide)).1

theorem abandon_armed_sublist (s : State) (p q : Port) :
    ((s.abandon p).pair q).armed.toList.Sublist (s.pair q).armed.toList := by
  rw [abandon_pair]
  split
  · exact List.nil_sublist _
  · exact List.Sublist.refl _

theorem abandon_queued_sublist (s : State) (p q : Port) : ((s.abandon p).queued q).Sublist (s.queued q) := by
  rw [queued, abandon_queue]
  exact ((List.filter_sublist).filter _).map _

/-- Nothing but a ramp owes the abandoned request any more. -/
theorem abandon_not_owed {s : State} {p : Port} {n : Nat} (hn : s.working p = some n) :
    ((s.abandon p).pair p).armed ≠ some n ∧ n ∉ (s.abandon p).queued p := by
  constructor
  · rw [abandon_pair]
    split
    · simp [Pairing.disarmed]
    case isFalse h => exact fun ha => h ⟨rfl, n, hn, ha⟩
  · rw [mem_queued_iff, abandon_queue]
    rintro ⟨a, ha, hp, ht⟩
    obtain ⟨-, hkeep⟩ := List.mem_filter.mp ha
    simp [hn, hp, ht] at hkeep

theorem abandon_other {s : State} {p q : Port} (hq : q ≠ p) :
    (s.abandon p).pair q = s.pair q ∧ (s.abandon p).queued q = s.queued q := by
  constructor
  · rw [abandon_pair, if_neg fun h => hq h.1]
  · rw [queued, abandon_queue, List.filter_filter, queued]
    congr 1
    refine List.filter_congr fun a _ => ?_
    by_cases hp : a.ticket.port = q <;> simp [hp, hq]

theorem abandon_timersOk {s : State} (p : Port) (h : s.TimersOk) : (s.abandon p).TimersOk := by
  refine ⟨fun q => ?_, ?_⟩
  · rw [abandon_pair]
    split
    · simp [Pairing.disarmed]
    · exact h.1 q
  · obtain ⟨hr, hramp⟩ := (abandon_touches s p).same .rail (by decide)
    rw [hr, hramp]
    exact h.2

theorem abandon_busOk {s : State} {h : Option Port} (p : Port) (hb : s.BusOk h) : (s.abandon p).BusOk h := by
  refine hb.drop (abandon_settles s p) ((abandon_touches s p).same .bus (by decide)) fun a ha how => ?_
  obtain ⟨-, hw⟩ := working_of_owing how
  rw [abandon_working] at hw
  rw [abandon_queue, List.mem_filter]
  refine ⟨ha, ?_⟩
  by_cases hp : a.ticket.port = p
  · simp [hp] at hw
  · simp [hp]

/-- With no ramp for its request an abandoned slot owes nothing. -/
theorem abandon_held {s : State} {h : Option Port} (p : Port) (hrail : s.supply.rail.owedTo p = [])
    (hs : s.OwnersHeld h) : (s.abandon p).OwnersHeld h := by
  obtain ⟨hslots, htimers, hbus⟩ := hs
  refine ⟨hslots.drop (abandon_settles s p) (fun q => ?_) (fun q n hn => ?_), abandon_timersOk p htimers,
    abandon_busOk p hbus⟩
  · rw [owed_eq, owed_eq, abandon_rail]
    exact ((abandon_armed_sublist ..).append (abandon_queued_sublist ..)).append (List.Sublist.refl _)
  · obtain ⟨hne, hwn⟩ := working_of_owing hn
    rw [owing_of_ne _ hne, abandon_working, owed_eq, abandon_rail]
    by_cases hq : q = p
    · subst hq
      obtain ⟨ha, hqu⟩ := abandon_not_owed hwn
      simp [ha, hqu, hrail]
    · obtain ⟨hpair, hqueued⟩ := abandon_other (s := s) hq
      rw [if_neg hq, hpair, hqueued, ← owed_eq, owed_of_owing hslots hn]
      simp [hwn]

/-! ### The rail's going off (R153 to R155) -/

/-- The blocks' part of the rail's going off, before Port A's slot is abandoned. -/
def railDown (s : State) : State :=
  State.frameRailOff { s with supply := { s.supply with rail := .off, ramp := none }
                              charge := { s.charge with cls := 0 } }

theorem railEffects_eq (s : State) : s.railEffects = s.railDown.abandon .a := rfl

theorem railDown_touches (s : State) : Touches [.rail, .ftrig, .tracker, .bands, .corrections] s s.railDown := by
  refine .trans ?_ ((frameRailOff_touches _).mono (by decide))
  simp [touches_iff]

theorem railDown_rail (s : State) : s.railDown.supply.rail = .off ∧ s.railDown.supply.ramp = none :=
  (frameRailOff_touches { s with supply := { s.supply with rail := .off, ramp := none }
                                 charge := { s.charge with cls := 0 } }).same .rail (by decide)

theorem railDown_owed (s : State) (q : Port) :
    (s.railDown.pair q).armed = (s.pair q).armed ∧ s.railDown.queued q = s.queued q
    ∧ s.railDown.working q = s.working q := by
  have hfoot := railDown_touches s
  obtain ⟨hpa, hpb⟩ := hfoot.same .pairs (by decide)
  have hq : s.railDown.link.queue = s.link.queue := hfoot.same .queue (by decide)
  refine ⟨?_, by simp only [queued, hq], working_same (hfoot.same .slots (by decide)) q⟩
  cases q
  exacts [congrArg Pairing.armed hpa, congrArg Pairing.armed hpb]

theorem railEffects_working (s : State) (q : Port) :
    s.railEffects.working q = if q = .a then none else s.working q := by
  rw [railEffects_eq, abandon_working, (railDown_owed s q).2.2]

theorem railEffects_settles (s : State) : Settles s s.railEffects :=
  (Settles.of_same ((railDown_touches s).same .slots (by decide))).trans (abandon_settles _ .a)

theorem railEffects_owed (s : State) (q : Port) : s.railEffects.owed q =
    (s.railEffects.pair q).armed.toList ++ s.railEffects.queued q := by
  rw [owed_eq, railEffects_eq, abandon_rail, (railDown_rail s).1]
  exact List.append_nil _

theorem railEffects_sublist (s : State) (q : Port) : (s.railEffects.owed q).Sublist (s.owed q) := by
  obtain ⟨ha, hqu, -⟩ := railDown_owed s q
  rw [railEffects_owed, owed_eq, ← ha, ← hqu, ← List.append_nil (_ ++ State.queued s.railEffects q)]
  exact ((abandon_armed_sublist ..).append (abandon_queued_sublist ..)).append (List.nil_sublist _)

theorem railEffects_owed_a {s : State} {n : Nat} (hn : s.working .a = some n) : n ∉ s.railEffects.owed .a := by
  obtain ⟨ha, hqu⟩ := abandon_not_owed (s := s.railDown) (p := .a) (((railDown_owed s .a).2.2).trans hn)
  rw [railEffects_owed, railEffects_eq]
  simp [ha, hqu]

theorem railEffects_owed_b (s : State) : s.railEffects.owed .b = (s.pair .b).armed.toList ++ s.queued .b := by
  obtain ⟨ha, hqu, -⟩ := railDown_owed s .b
  obtain ⟨hpair, hqueued⟩ := abandon_other (s := s.railDown) (p := .a) (q := .b) (by decide)
  rw [railEffects_owed, railEffects_eq, hpair, hqueued, ha, hqu]

theorem railEffects_timersOk {s : State} (h : s.TimersOk) : s.railEffects.TimersOk := by
  obtain ⟨hrail, hramp⟩ := railDown_rail s
  refine abandon_timersOk (s := s.railDown) .a ⟨fun q => ?_, by simp [hrail, hramp, Rail.isRamping]⟩
  obtain ⟨hpa, hpb⟩ := (railDown_touches s).same .pairs (by decide)
  have hpair : s.railDown.pair q = s.pair q := by
    cases q
    exacts [hpa, hpb]
  rw [hpair]
  exact h.1 q

theorem railEffects_busOk {s : State} {h : Option Port} (hb : s.BusOk h) : s.railEffects.BusOk h :=
  abandon_busOk .a (Reads.keep (busOk_reads h) (railDown_touches s) rfl hb)

theorem ramp_owed {s : State} {t : Ticket} (hr : s.supply.rail = .ramping t) : t.taking ∈ s.owed t.port := by
  simp [owed_eq, hr, Rail.owedTo]

/-- The rail off without a RAIL_ON of Port B to answer. -/
theorem railEffects_held {s : State} {h : Option Port} (hb : s.supply.rail.owedTo .b = []) (hs : s.OwnersHeld h) :
    s.railEffects.OwnersHeld h := by
  obtain ⟨hslots, htimers, hbus⟩ := hs
  refine ⟨hslots.drop (railEffects_settles s) (railEffects_sublist s) (fun q n hn => ?_), railEffects_timersOk htimers,
    railEffects_busOk hbus⟩
  obtain ⟨hne, hwn⟩ := working_of_owing hn
  rw [owing_of_ne _ hne, railEffects_working]
  cases q with
  | a => simp [railEffects_owed_a hwn]
  | b =>
    have hone := owed_of_owing hslots hn
    rw [owed_eq, hb, List.append_nil] at hone
    rw [railEffects_owed_b, hone]
    simp [hwn]

/-- The rail off with the RAIL_ON of ticket `t` answered last. -/
theorem railEffects_finish_held {s : State} {h : Option Port} {t : Ticket} (a : Answer)
    (hr : s.supply.rail = .ramping t) (hs : s.OwnersHeld h) : (s.railEffects.finish t.port a).OwnersHeld h := by
  obtain ⟨hslots, htimers, hbus⟩ := hs
  have how := owing_of_mem hslots (ramp_owed hr)
  have hone := owed_of_owing hslots how
  obtain ⟨hset, hw⟩ := finish_settles s.railEffects t.port a
  have hfoot := finish_touches s.railEffects t.port a
  have hsettles := (railEffects_settles s).trans hset
  have howed (q : Port) : (s.railEffects.finish t.port a).owed q = s.railEffects.owed q := by
    obtain ⟨hpa, hpb⟩ := hfoot.same .pairs (by decide)
    have hq : (s.railEffects.finish t.port a).link.queue = s.railEffects.link.queue := hfoot.same .queue (by decide)
    have hrail : (s.railEffects.finish t.port a).supply.rail = s.railEffects.supply.rail :=
      (hfoot.same .rail (by decide)).1
    have hpair : (s.railEffects.finish t.port a).pair q = s.railEffects.pair q := by
      cases q
      exacts [hpa, hpb]
    simp only [owed_eq, queued, hq, hrail, hpair]
  refine ⟨hslots.drop hsettles (fun q => ?_) (fun q n hn => ?_),
    timersOk_reads.keep hfoot rfl (railEffects_timersOk htimers), (railEffects_busOk hbus).drop hset
      (hfoot.same .bus (by decide)) fun x hx _ => ?_⟩
  · rw [howed]
    exact railEffects_sublist s q
  · obtain ⟨hne, hwn⟩ := working_of_owing hn
    rw [owing_of_ne _ hne, hw, howed, railEffects_working]
    cases q with
    | a => simp [railEffects_owed_a hwn]
    | b =>
      rw [railEffects_owed_b]
      by_cases hp : Port.b = t.port
      · rw [← hp] at hone
        rw [owed_eq] at hone
        obtain ⟨-, -, hr0⟩ | ⟨-, -, hr0⟩ | ⟨ha, hqu, -⟩ := owed_parts hone
        · simp [hr, Rail.owedTo, ← hp] at hr0
        · simp [hr, Rail.owedTo, ← hp] at hr0
        · rw [ha, hqu]
          simp [hp]
      · have honeb := owed_of_owing hslots hn
        have hrb : s.supply.rail.owedTo .b = [] := by simp [hr, Rail.owedTo, Ne.symm hp]
        rw [owed_eq, hrb, List.append_nil] at honeb
        rw [honeb]
        simp [hp, hwn]
  · have hq : (s.railEffects.finish t.port a).link.queue = s.railEffects.link.queue := hfoot.same .queue (by decide)
    rwa [hq]

/-- Without a status for its RAIL_ON the rail goes off only while the request under way is Port B's. -/
theorem railGoesOff_held {s : State} {h : Option Port} {st : Option Status} (hst : st.isSome ∨ h = some .b)
    (hs : s.OwnersHeld h) : (s.railGoesOff st).OwnersHeld h := by
  obtain ⟨hslots, -, -⟩ := id hs
  refine ite_keeps hs ?_
  split
  case h_1 =>
    rename_i t x ht
    refine railEffects_finish_held _ ?_ hs
    unfold railOwner at ht
    split at ht
    case h_1 t' hr =>
      split at ht
      · cases ht
        exact hr
      · cases ht
    case h_2 => cases ht
  case h_2 hnone =>
    refine railEffects_held ?_ hs
    cases hr : s.supply.rail with
    | off | on => rfl
    | ramping t =>
      by_cases hp : t.port = .b
      · have how := owing_of_mem hslots (ramp_owed hr)
        obtain ⟨hne, hw⟩ := working_of_owing how
        rcases hst with hst | hst
        · obtain ⟨x, rfl⟩ := Option.isSome_iff_exists.mp hst
          have howner : s.railOwner = some t := by
            simp only [railOwner, hr, (inFlight_iff s t).mpr hw, if_true]
          exact absurd rfl (hnone t x howner)
        · exact absurd (hst.trans (by rw [hp])) hne
      · simp [Rail.owedTo, hp]

/-- MRAIL_PG rises: the ramp ends and its RAIL_ON completes. -/
theorem railUp_held {s : State} {h : Option Port} (hs : s.OwnersHeld h) : s.railUp.OwnersHeld h := by
  unfold railUp
  split
  case h_2 => exact hs
  case h_1 t hr =>
    obtain ⟨hslots, htimers, hbus⟩ := hs
    dsimp only
    generalize hu : ({ s with supply := { s.supply with rail := .on, ramp := none } } : State) = u
    have hfoot : Touches [.rail] s u := hu ▸ by simp [touches_iff]
    have howed (q : Port) : u.owed q = (s.pair q).armed.toList ++ s.queued q := by
      subst hu
      exact List.append_nil _
    obtain ⟨hset, hw⟩ := complete_settles u t .ok [Rail.code .on]
    have hcfoot := complete_touches u t .ok [Rail.code .on]
    have hsettles := (Settles.of_same (hfoot.same .slots (by decide))).trans hset
    refine ⟨hslots.drop hsettles (fun q => ?_) (fun q n hn => ?_), timersOk_reads.keep hcfoot rfl ?_,
      hbus.drop hsettles ((hcfoot.same .bus (by decide)).trans (hfoot.same .bus (by decide))) fun x hx _ => ?_⟩
    · rw [owed_complete, howed, owed_eq]
      exact List.sublist_append_left _ _
    · obtain ⟨hne, hwn⟩ := working_of_owing hn
      rw [owing_of_ne _ hne, hw, owed_complete, howed, working_same (hfoot.same .slots (by decide)), hwn]
      have hone := owed_of_owing hslots hn
      by_cases hq : q = t.port
      · subst hq
        obtain rfl : n = t.taking := by
          have := ramp_owed hr
          rw [hone, List.mem_singleton] at this
          exact this.symm
        rw [owed_eq] at hone
        obtain ⟨-, -, hr0⟩ | ⟨-, -, hr0⟩ | ⟨ha, hqu, -⟩ := owed_parts hone
        · simp [hr, Rail.owedTo] at hr0
        · simp [hr, Rail.owedTo] at hr0
        · simp [ha, hqu]
      · have hr0 : s.supply.rail.owedTo q = [] := by simp [hr, Rail.owedTo, Ne.symm hq]
        rw [owed_eq, hr0, List.append_nil] at hone
        rw [hone]
        simp [hq]
    · subst hu
      exact ⟨htimers.1, by simp [Rail.isRamping]⟩
    · have hq : (u.complete t .ok [Rail.code .on]).link.queue = s.link.queue :=
        (hcfoot.same .queue (by decide)).trans (hfoot.same .queue (by decide))
      rwa [hq]

end State
end Sys2Proof.Machine

namespace Sys2Proof.Machine
namespace State

/-! ### Slots that a transfer of their port reaches (R189, R190, R192) -/

theorem owed_setPort (s : State) (p q : Port) (x : PortState) : (s.setPort p x).owed q = s.owed q := by
  cases p <;> cases q <;> rfl

theorem setPort_touches (s : State) (p : Port) (x : PortState) (h : (s.port p).SameLines x) :
    Touches [.slots] s (s.setPort p x) := by
  obtain ⟨h1, h2, h3⟩ := h
  cases p <;> simp_all [touches_iff, setPort, port, PortState.LinesOk]

/-- A transfer that takes no request leaves the waiting as it is. -/
theorem setPort_held {s : State} {h : Option Port} (p : Port) (x : PortState)
    (hw : ∀ n, (∃ c, x.slot = .working c n) ↔ s.working p = some n) (ht : x.takings = (s.port p).takings)
    (he : x.earlier = Earlier.none) (hl : (s.port p).SameLines x) (hs : s.OwnersHeld h) :
    (s.setPort p x).OwnersHeld h := by
  obtain ⟨hslots, htimers, hbus⟩ := hs
  have hfoot := setPort_touches s p x hl
  have hworking (q : Port) (n : Nat) : (s.setPort p x).working q = some n ↔ s.working q = some n := by
    rw [working_iff, port_setPort_eq]
    by_cases hq : q = p
    · rw [if_pos hq, hw, hq]
    · rw [if_neg hq, working_iff]
  have hset : Settles s (s.setPort p x) := by
    refine ⟨fun q => ?_, fun q n hn => ⟨(hworking q n).mp hn, fun hearlier => ?_⟩⟩ <;> rw [port_setPort_eq] <;> split
    case isTrue hq => rw [ht, hq]
    case isFalse => rfl
    case isTrue => exact he
    case isFalse => exact hearlier
  refine ⟨hslots.drop hset (fun q => ?_) (fun q n hn => ?_), timersOk_reads.keep hfoot rfl htimers,
    hbus.drop hset (hfoot.same .bus (by decide)) fun a ha _ => ?_⟩
  · rw [owed_setPort]
  · obtain ⟨hne, hwn⟩ := working_of_owing hn
    rw [owing_of_ne _ hne, hworking, owed_setPort, owed_of_owing hslots hn]
    simp [hwn]
  · have hq : (s.setPort p x).link.queue = s.link.queue := hfoot.same .queue (by decide)
    rwa [hq]

theorem refuseBusy_held {s : State} {h : Option Port} (p : Port) (f : Frame) (hs : s.OwnersHeld h) :
    (s.refuseBusy p f).OwnersHeld h :=
  setPort_held p _ (fun n => (working_iff s p n).symm) rfl rfl ⟨rfl, rfl, rfl⟩ hs

theorem fetched_held {s : State} {h : Option Port} (p : Port) (n : Nat) (hs : s.OwnersHeld h) :
    (s.setPort p { s.port p with
      slot := (s.port p).slot.afterFetch, earlier := Earlier.none, sent := fetchSends p (s.port p).slot n
      busy := false }).OwnersHeld h := by
  refine setPort_held p _ (fun m => ?_) rfl rfl ⟨rfl, rfl, rfl⟩ hs
  rw [working_iff]
  cases (s.port p).slot <;> simp [Slot.afterFetch]

/-! ### A request from its taking to its answer (R190, R191) -/

/-- A request of port `p` has just been taken: its slot is WORKING, and nothing owes it yet. -/
structure Taken (p : Port) (s : State) : Prop where
  held : s.OwnersHeld (some p)
  working : s.working p = some (s.port p).takings
  earlier : (s.port p).earlier = Earlier.none
  older : ∀ a ∈ s.link.bus.access, a.ticket.port = p → a.ticket.taking < (s.port p).takings

theorem take_taken {s : State} {p : Port} (c : Byte) (f : Frame) (hw : s.working p = none)
    (hs : s.OwnersHeld none) : (s.take p c f).Taken p := by
  obtain ⟨hslots, htimers, hbus⟩ := hs
  have hfoot := take_touches s p c f
  have hport (q : Port) (hq : q ≠ p) : (s.take p c f).port q = s.port q := port_setPort_other s p q _ hq
  have howing (q : Port) : (s.take p c f).owing (some p) q = s.working q := by
    by_cases hq : q = p
    · simp [hq, hw]
    · rw [owing_of_ne _ (by simpa using Ne.symm hq)]
      simp only [working, hport q hq]
  have howed (q : Port) : (s.take p c f).owed q = s.owed q := owed_setPort ..
  have hb : (s.take p c f).link.bus = s.link.bus := hfoot.same .bus (by decide)
  have hq : (s.take p c f).link.queue = s.link.queue := hfoot.same .queue (by decide)
  have htakings : ((s.take p c f).port p).takings = (s.port p).takings + 1 := by simp [take]
  refine ⟨⟨fun q => ?_, timersOk_reads.keep hfoot rfl htimers, fun a ha => ?_⟩, ?_, by simp [take], fun a ha hp => ?_⟩
  · obtain ⟨h1, h2⟩ := hslots q
    rw [howed, howing]
    rw [owing_none] at h1 h2
    refine ⟨h1, fun n hn => ?_⟩
    have hqp : q ≠ p := by
      rintro rfl
      simp [hw] at hn
    rw [hport q hqp]
    exact h2 n hn
  · obtain ⟨h1, h2⟩ := hbus a (hb ▸ ha)
    rw [howing, hq]
    refine ⟨?_, by rwa [owing_none] at h2⟩
    by_cases hp : a.ticket.port = p
    · rw [hp] at h1 ⊢
      omega
    · rwa [hport _ hp]
  · rw [working_iff, htakings]
    exact ⟨c, by simp [take]⟩
  · obtain ⟨h1, -⟩ := hbus a (hb ▸ ha)
    rw [htakings, ← hp]
    omega

theorem answer_held {s : State} {p : Port} (a : Answer) (hs : s.OwnersHeld (some p)) :
    (s.answer p a).OwnersHeld none := by
  obtain ⟨hslots, htimers, hbus⟩ := hs
  have hfoot := answer_touches s p a
  have howing (q : Port) : (s.answer p a).owing none q = s.owing (some p) q := by
    rw [owing_none]
    by_cases hq : q = p
    · subst hq
      simp [working, answer]
    · rw [owing_of_ne _ (by simpa using Ne.symm hq)]
      simp only [working, answer, port_setPort_other _ _ _ _ hq]
  have hb : (s.answer p a).link.bus = s.link.bus := hfoot.same .bus (by decide)
  have hq : (s.answer p a).link.queue = s.link.queue := hfoot.same .queue (by decide)
  have htakings (q : Port) : ((s.answer p a).port q).takings = (s.port q).takings := by
    simp only [answer, port_setPort_eq]
    split
    case isTrue h => rw [h]
    case isFalse => rfl
  refine ⟨fun q => ?_, timersOk_reads.keep hfoot rfl htimers, fun x hx => ?_⟩
  · rw [howing, htakings, show (s.answer p a).owed q = s.owed q from owed_setPort ..]
    obtain ⟨h1, h2⟩ := hslots q
    refine ⟨h1, fun n hn => ⟨(h2 n hn).1, ?_⟩⟩
    simp only [answer, port_setPort_eq]
    split
    · rfl
    · exact (h2 n hn).2
  · rw [howing, htakings, hq]
    exact hbus x (hb ▸ hx)

/-- The machine has come to owe the request just taken its completion. -/
theorem flying_held {s t : State} {p : Port} (hs : s.Taken p) (hslots : Piece.Same s t .slots)
    (howed : t.owed p = [(s.port p).takings]) (hother : ∀ q, q ≠ p → t.owed q = s.owed q) (htimers : t.TimersOk)
    (hbus : t.BusOk none) : t.OwnersHeld none := by
  refine ⟨fun q => ?_, htimers, hbus⟩
  obtain ⟨-, he, ht⟩ := port_same hslots q
  rw [owing_none, working_same hslots, he, ht]
  by_cases hq : q = p
  · subst hq
    rw [howed, hs.working]
    refine ⟨rfl, fun n hn => ⟨?_, hs.earlier⟩⟩
    exact (Option.some_inj.mp hn).symm
  · rw [hother q hq, ← owing_of_ne s (h := some p) (by simpa using Ne.symm hq)]
    exact hs.held.1 q

theorem taken_busOk {s t : State} {p : Port} (hs : s.Taken p) (hslots : Piece.Same s t .slots)
    (hb : t.link.bus = s.link.bus) (hq : ∀ a ∈ s.link.queue, a ∈ t.link.queue) : t.BusOk none := by
  intro a ha
  rw [hb] at ha
  obtain ⟨h1, h2⟩ := hs.held.2.2 a ha
  rw [owing_none, working_same hslots, (port_same hslots _).2.2]
  refine ⟨h1, fun hw => ?_⟩
  by_cases hp : a.ticket.port = p
  · have hlt := hs.older a ha hp
    rw [hp, hs.working] at hw
    have := Option.some_inj.mp hw
    omega
  · exact hq a (h2 (by rwa [owing_of_ne _ (by simpa using Ne.symm hp)]))

theorem taken_owed {s : State} {p : Port} (hs : s.Taken p) :
    (s.pair p).armed = none ∧ s.queued p = [] ∧ s.supply.rail.owedTo p = [] := by
  have h := (hs.held.1 p).1
  rw [owing_self, owed_eq] at h
  simp only [Option.toList_none, List.append_eq_nil_iff, Option.toList_eq_nil_iff] at h
  obtain ⟨⟨h1, h2⟩, h3⟩ := h
  exact ⟨h1, h2, h3⟩

/-! ### The three rules that keep their request in flight (R9, R34, R152) -/

theorem timePair_held {s : State} {p : Port} (b : List Byte) (hs : s.Taken p) :
    (Machine.timePair p b s).1.OwnersHeld none := by
  obtain ⟨-, hqueued, hrail⟩ := taken_owed hs
  have hfoot := setPair_touches s p { armed := some (s.port p).takings, timeout := some (later s.tick (2 ^ 20)) }
  have hslots := hfoot.same .slots (by decide)
  have hq : (Machine.timePair p b s).1.link.queue = s.link.queue := hfoot.same .queue (by decide)
  have hr : (Machine.timePair p b s).1.supply.rail = s.supply.rail := (hfoot.same .rail (by decide)).1
  have hpair (q : Port) := pair_setPair_eq s p q
    { armed := some (s.port p).takings, timeout := some (later s.tick (2 ^ 20)) }
  refine flying_held hs hslots ?_ (fun q hne => ?_) ⟨fun q => ?_, ?_⟩
    (taken_busOk hs hslots (hfoot.same .bus (by decide)) fun a ha => by rwa [hq])
  · rw [owed_eq, queued, hq, hr, hrail]
    change (State.pair (s.setPair p _) p).armed.toList ++ s.queued p ++ [] = _
    simp [hqueued]
  · rw [owed_eq, queued, hq, hr]
    change (State.pair (s.setPair p _) q).armed.toList ++ s.queued q ++ _ = _
    rw [hpair, if_neg hne, owed_eq]
  · change (State.pair (s.setPair p _) q).timeout.isSome ↔ (State.pair (s.setPair p _) q).armed.isSome
    rw [hpair]
    split
    · simp
    · exact hs.held.2.1.1 q
  · have hramp : (Machine.timePair p b s).1.supply.ramp = s.supply.ramp := (hfoot.same .rail (by decide)).2
    rw [hr, hramp]
    exact hs.held.2.1.2

theorem joinAccess_held {s : State} {p : Port} {a : Access} (ha : a.ticket = s.ticket p) (hs : s.Taken p) :
    (s.joinAccess a).OwnersHeld none := by
  obtain ⟨harmed, hqueued, hrail⟩ := taken_owed hs
  have hport : a.ticket.port = p := by rw [ha]; rfl
  have htaking : a.ticket.taking = (s.port p).takings := by rw [ha]; rfl
  have hfoot := joinAccess_touches s a
  have hslots := hfoot.same .slots (by decide)
  have hq : (s.joinAccess a).link.queue = s.link.queue ++ [a] :=
    ite_keeps (P := fun u : State => u.link.queue = s.link.queue ++ [a]) rfl rfl
  obtain ⟨hpa, hpb⟩ := hfoot.same .pairs (by decide)
  have hpair (q : Port) : (s.joinAccess a).pair q = s.pair q := by
    cases q
    exacts [hpa, hpb]
  have hr : (s.joinAccess a).supply.rail = s.supply.rail := (hfoot.same .rail (by decide)).1
  have howed (q : Port) : (s.joinAccess a).owed q = (s.pair q).armed.toList
      ++ (s.queued q ++ if p = q then [(s.port p).takings] else []) ++ s.supply.rail.owedTo q := by
    rw [owed_eq, hpair, hr, queued, hq, List.filter_append, List.map_append]
    by_cases hpq : p = q <;> simp [queued, hport, htaking, hpq]
  refine flying_held hs hslots ?_ (fun q hne => ?_)
    (timersOk_reads.keep hfoot rfl hs.held.2.1) fun x hx => ?_
  · rw [howed, harmed, hqueued, hrail]
    simp
  · rw [howed, if_neg (Ne.symm hne), List.append_nil, owed_eq]
  · by_cases hfree : s.link.bus = .free
    · have hbus : (s.joinAccess a).link.bus = .passThrough a := by simp [joinAccess, hfree, onBus]
      rw [hbus] at hx
      cases hx
      refine ⟨?_, fun _ => by simp [hq]⟩
      rw [hport, htaking, (port_same hslots p).2.2]
    · have hbus : (s.joinAccess a).link.bus = s.link.bus := by simp [joinAccess, hfree]
      exact taken_busOk hs hslots hbus (fun y hy => by simp [hq, hy]) x hx

/-- A rail that was off owes nothing; with MRAIL_PG low it comes to owe the RAIL_ON its completion. -/
theorem ramping_held {s : State} {p : Port} (hoff : s.supply.rail = .off) (hs : s.Taken p) :
    ({ s with supply := { s.supply with rail := .ramping (s.ticket p), ramp := some (later s.tick 131072) } } :
      State).OwnersHeld none := by
  obtain ⟨harmed, hqueued, -⟩ := taken_owed hs
  refine flying_held hs (by simp) ?_ (fun q hne => ?_) ⟨hs.held.2.1.1, by simp [Rail.isRamping]⟩
    (taken_busOk hs (by simp) rfl fun _ => id)
  · change (s.pair p).armed.toList ++ s.queued p ++ (Rail.ramping (s.ticket p)).owedTo p = _
    simp [harmed, hqueued, Rail.owedTo, ticket]
  · change (s.pair q).armed.toList ++ s.queued q ++ (Rail.ramping (s.ticket p)).owedTo q = _
    rw [owed_eq, hoff]
    simp [Rail.owedTo, ticket, Ne.symm hne]

theorem railOn_at_once_held {s : State} {h : Option Port} (hoff : s.supply.rail = .off) (hs : s.OwnersHeld h) :
    ({ s with supply := { s.supply with rail := .on, ramp := none } } : State).OwnersHeld h := by
  obtain ⟨hslots, htimers, hbus⟩ := hs
  refine ⟨fun q => ?_, ⟨htimers.1, by simp [Rail.isRamping]⟩, hbus⟩
  have howed : State.owed { s with supply := { s.supply with rail := .on, ramp := none } } q = s.owed q := by
    simp only [owed_eq, hoff]
    rfl
  rw [howed]
  exact hslots q

end State
end Sys2Proof.Machine

namespace Sys2Proof.Machine
namespace State

theorem held_keep {ps : List Piece} {h : Option Port} {s t : State} (hfoot : Touches ps s t)
    (hd : Piece.apart [.slots, .pairs, .queue, .rail, .bus] ps = true) (hs : s.OwnersHeld h) : t.OwnersHeld h :=
  Reads.keep (ownersHeld_reads h) hfoot hd hs

/-! ### The supply and the resets -/

theorem enterFinishing_held {s : State} (hs : s.OwnersHeld none) : s.enterFinishing.OwnersHeld none := by
  have hraised : (State.raise .supplyLow { s with supply := { s.supply with
      state := .finishing, pwrfail := .high, debounce := none
      hold := some (later s.tick s.supply.settings.hold) } }).OwnersHeld none :=
    held_keep (raise_touches ..) rfl hs
  unfold enterFinishing
  dsimp only
  split
  · exact railGoesOff_held (.inl rfl) hraised
  · exact hraised

theorem shutDown_held {s : State} (cause : CutCause) (hs : s.OwnersHeld none) : (s.shutDown cause).OwnersHeld none := by
  have hsealed := held_keep (seal_touches s cause) rfl hs
  have hstop := linkStop_held (railGoesOff_held (st := some .wrongState) (.inl rfl) hsealed)
  exact hstop

theorem round_held {s : State} (r : RawMeas) (o : RoundOrder) (hs : s.OwnersHeld none) :
    (s.round r o).OwnersHeld none := by
  refine round_keeps r o (held_keep (applyInput_touches _ _) rfl hs) fun first changed w u hu => ?_
  cases w with
  | supply =>
    have hcut := shutDown_held .hardCut hu
    exact judge_keeps hu (fun _ _ => ite_keeps (held_keep (raise_touches ..) rfl hcut) hcut)
      (fun _ _ => enterFinishing_held hu) (fun _ _ _ => hu) fun _ => held_keep (supplyNormal_touches u) rfl hu
  | input => exact ite_keeps (held_keep (chargeInput_touches u) rfl hu) hu
  | charge => exact held_keep (chargeAndGauge_touches ..) rfl hu

theorem railOff_held {s : State} {h : Option Port} (hs : s.OwnersHeld h) : s.railOff.OwnersHeld h :=
  railGoesOff_held (.inl rfl) (ite_keeps (held_keep (seal_touches s _) rfl hs) hs)

theorem railGoesOff_rail_owed (s : State) (st : Option Status) (p : Port) :
    (s.railGoesOff st).supply.rail.owedTo p = [] := by
  rw [railGoesOff_rail]
  rfl

/-- With Port A's slot abandoned and Port B's request under way nothing waits, and SOFT_RESET empties the queue. -/
theorem softReset_held {s : State} (hs : s.OwnersHeld (some .b)) : s.softReset.OwnersHeld (some .b) := by
  have hrail := railGoesOff_held (st := none) (.inr rfl) hs
  have habandoned := abandon_held .a (railGoesOff_rail_owed s none .a) hrail
  generalize hu : (s.railGoesOff none).abandon .a = u at habandoned
  have hworking : u.working .a = none := by rw [← hu, abandon_working, if_pos rfl]
  have hrailu : u.supply.rail = .off := by rw [← hu, abandon_rail, railGoesOff_rail]
  obtain ⟨hslots, htimers, -⟩ := habandoned
  have howing (q : Port) : u.owing (some .b) q = none := by
    cases q
    · exact (owing_of_ne u (by decide)).trans hworking
    · exact owing_self u .b
  generalize hv : ({ u with portA := u.portA.withMask 0xFFFF, portB := u.portB.withMask 0xFFFF } : State) = v
  have hports : v.motionSoftReset.OwnersHeld (some .b) := by
    have hsame : Piece.Same u v.motionSoftReset .slots := by
      subst hv
      simp [motionSoftReset, wheelSoftReset, PortState.withMask]
    have hpair (q : Port) : v.motionSoftReset.pair q = u.pair q := by
      subst hv
      cases q <;> rfl
    have hrailv : v.motionSoftReset.supply = u.supply := by
      subst hv
      rfl
    refine ⟨fun q => ?_, ⟨fun q => ?_, ?_⟩, busOk_of_none rfl⟩
    · have howed := (hslots q).1
      rw [howing, owed_eq] at howed
      simp only [Option.toList_none, List.append_eq_nil_iff, Option.toList_eq_nil_iff] at howed
      rw [owing_same hsame, howing, owed_eq, hpair, hrailv, howed.1.1, howed.2]
      exact ⟨rfl, by simp⟩
    · rw [hpair]
      exact htimers.1 q
    · rw [hrailv]
      exact htimers.2
  have hreset : s.softReset = v.motionSoftReset.chargeSoftReset := by
    rw [← hv, ← hu]
    rfl
  rw [hreset]
  exact held_keep (chargeSoftReset_touches _) rfl hports

/-- After POR nothing waits and nothing owes. -/
theorem por_held (s : State) (v : Nat) (l : Level) : (s.por v l).OwnersHeld none := by
  refine ⟨fun q => ?_, ⟨fun q => ?_, ?_⟩, busOk_of_none rfl⟩
  · cases q <;> exact ⟨rfl, fun n hn => by cases hn⟩
  · cases q <;> exact Iff.rfl
  · simp [por, reset, Supply.atPor, Rail.isRamping]

/-! ### The events of the link -/

theorem burstDone_held {s : State} (bytes : Vector Byte 12) (hs : s.OwnersHeld none) :
    (s.burstDone bytes).OwnersHeld none := by
  unfold burstDone
  split
  case h_1 t gap _ =>
    have hsample := held_keep (sample_touches s
      (assemble s.link.settings.order bytes t s.link.first)) rfl hs
    exact serveBus_held _ hsample.1 hsample.2.1
  case h_2 => exact hs

theorem verified_held {s : State} (v : Byte) (hs : s.OwnersHeld none) : (s.verified v).OwnersHeld none := by
  unfold verified
  split
  · exact ite_keeps (replay_held _ hs) (attemptFails_held hs)
  · exact hs

theorem bankWritten_held {s : State} (hs : s.OwnersHeld none) : s.bankWritten.OwnersHeld none := by
  unfold bankWritten
  split
  · exact ite_keeps (onBus_held rfl hs) (replay_held _ hs)
  · exact hs

/-- A DRDY capture puts a burst on a free bus, or leaves the bus. -/
theorem drdyRunning_held {s : State} (hs : s.OwnersHeld none) : s.drdyRunning.OwnersHeld none := by
  obtain ⟨hslots, htimers, hbus⟩ := hs
  unfold drdyRunning
  dsimp only
  split
  · exact ⟨hslots, htimers, busOk_of_none rfl⟩
  · exact ⟨hslots, htimers, hbus⟩

theorem startup_held {s : State} (hs : s.OwnersHeld none) :
    ({ s with link := { s.link with state := .configuring, startup := none, bus := .identityRead } } :
      State).OwnersHeld none :=
  ⟨hs.1, hs.2.1, busOk_of_none rfl⟩

/-! ### Requests -/

/-- Every own rule but the three that keep their request in flight answers at once. -/
theorem rule_done (pg : Level) {k : Kind} (hk : k ≠ .timePair ∧ k ≠ .imuAccess ∧ k ≠ .railOn) (p : Port)
    (b : List Byte) (s : State) : ∃ st body, (Kind.rule pg k p b s).2 = .done st body := by
  obtain ⟨h1, h2, h3⟩ := hk
  cases k
  case timePair => exact absurd rfl h1
  case imuAccess => exact absurd rfl h2
  case railOn => exact absurd rfl h3
  all_goals
    simp only [Kind.rule, Machine.noticeRead, Machine.noticeMask, Machine.policySet, Machine.policyLock,
      Machine.identify, Machine.softReset, Machine.timeRead, Machine.wheelSet, Machine.wheelRead, Machine.imuLinkSet,
      Machine.imuBankWrite, Machine.imuBankRead, Machine.imuStart, Machine.imuStop, Machine.imuStatus, Machine.biasSet,
      Machine.motionSet, Machine.motionRead, Machine.lensSet, Machine.frameStart, Machine.frameStop, Machine.corrRead,
      Machine.frameStatus, Machine.cardSet, Machine.formatCatalogue, Machine.clipOpen, Machine.clipReserve,
      Machine.clipProgress, Machine.clipClose, Machine.clipDeleted, Machine.clipProtect, Machine.clipUnprotect,
      Machine.clipForget, Machine.clipRead, Machine.clipList, Machine.cardRead, Machine.markUser, Machine.markRead,
      Machine.recoveryRead, Machine.recoveryClear, Machine.supplySet, Machine.railOff, Machine.supplyRead,
      Machine.chargeSet, Machine.chargeEnable, Machine.powerTableSet, Machine.powerClass, Machine.faultClear,
      Machine.chargeRead, Machine.gaugeSet, Machine.gaugeRead]
    repeat' split
  all_goals exact ⟨_, _, rfl⟩

theorem settle_held {p : Port} {k : Kind} {r : State × Reply} (hr : ∃ st body, r.2 = .done st body)
    (h : r.1.OwnersHeld (some p)) : (State.settle p k r).OwnersHeld none := by
  obtain ⟨u, _⟩ := r
  obtain ⟨st, body, rfl⟩ := hr
  exact answer_held _ h

theorem allowed_softReset {s : State} {p : Port} {f : Frame} (h : s.precheck p .softReset f = none) : p = .b := by
  unfold precheck at h
  split at h
  · cases h
  · split at h
    · cases h
    case isFalse ha =>
      simp only [allowed, Kind.portBOnly] at ha
      cases p with
      | a => simp at ha
      | b => rfl

/-- What each own rule makes of the request just taken. -/
theorem rule_held (pg : Level) (k : Kind) {p : Port} {f : Frame} {s : State} (hs : s.Taken p)
    (hpre : s.precheck p k f = none) : (State.settle p k (Kind.rule pg k p f.body s)).OwnersHeld none := by
  by_cases hk : k ≠ .timePair ∧ k ≠ .imuAccess ∧ k ≠ .railOn
  · refine settle_held (rule_done pg hk p f.body s) ?_
    have hfoot := rule_touches pg k p f.body s
    obtain ⟨h1, h2, h3⟩ := hk
    cases k
    case timePair => exact absurd rfl h1
    case imuAccess => exact absurd rfl h2
    case railOn => exact absurd rfl h3
    case softReset =>
      obtain rfl := allowed_softReset hpre
      exact ite_fst_keeps hs.held (softReset_held hs.held)
    case imuStop => exact linkStop_held hs.held
    case railOff => exact ite_fst_keeps hs.held (ite_fst_keeps hs.held (railOff_held hs.held))
    all_goals exact held_keep hfoot rfl hs.held
  · simp only [ne_eq, not_and_or, Decidable.not_not] at hk
    rcases hk with rfl | rfl | rfl
    · exact timePair_held f.body hs
    · simp only [Kind.rule, Machine.imuAccess]
      split
      · exact answer_held _ hs.held
      split
      · exact answer_held _ hs.held
      split
      · exact answer_held _ hs.held
      · exact joinAccess_held rfl hs
    · simp only [Kind.rule, Machine.railOn]
      split
      · exact answer_held _ hs.held
      split
      · exact answer_held _ hs.held
      · exact answer_held _ hs.held
      case h_3 hoff =>
        split
        · cases pg with
          | low => exact ramping_held hoff hs
          | high => exact answer_held _ (railOn_at_once_held hoff hs.held)
        · exact answer_held _ hs.held

theorem not_working_of_met {s : State} {p : Port} {b : Began} (h : (s.port p).met b ≠ .working) :
    s.working p = none := by
  have hslot := PortState.not_working_of_met h
  cases hw : s.working p with
  | none => rfl
  | some n =>
    obtain ⟨c, hc⟩ := (working_iff ..).mp hw
    simp [hc, Slot.state] at hslot

theorem doRequest_held {k : Kind} {act : Port → List Byte → State → State × Reply} {p : Port} {f : Frame} {s t : State}
    (hact : ∀ u, u.Taken p → u.precheck p k f = none → (State.settle p k (act p f.body u)).OwnersHeld none)
    (hs : s.OwnersHeld none) (h : s.doRequest k act p f = .next t) : t.OwnersHeld none := by
  obtain rfl | rfl | ⟨-, hw, st, rfl⟩ | ⟨⟨-, hw, hpre⟩, rfl⟩ := doRequest_cases h
  · exact hs
  · exact refuseBusy_held p f hs
  · rw [← take_answer s p (Kind.code k)]
    exact answer_held _ (take_taken _ f (not_working_of_met hw) hs).held
  · exact hact _ (take_taken _ f (not_working_of_met hw) hs) (by rwa [take_precheck])

theorem unknownRequest_held {s : State} (p : Port) (kind : Byte) (f : Frame) (hs : s.OwnersHeld none) :
    (s.unknownRequest p kind f).OwnersHeld none := by
  unfold unknownRequest
  split
  · exact refuseBusy_held p f hs
  case isFalse hw => exact answer_held _ (take_taken _ f (not_working_of_met hw) hs).held

end State

open State

theorem event_keeps_owners {c : Instr} (hreq : c.asRequest = none) {s t : State} (hs : s.OwnersHeld none)
    (h : exec c s = .next t) : t.OwnersHeld none := by
  have hfoot := exec_touches h
  cases c <;> simp only [Instr.asRequest, reduceCtorEq] at hreq <;> dsimp only [exec] at h
  case por v l => cases h; exact por_held ..
  case syncCapture p =>
    refine whenPowered_keeps h hs fun _ => endPairing_held p _ _ ?_
    refine held_keep (ps := []) ?_ rfl hs
    cases p <;> simp [touches_iff, capture, emptied, Channels.put, syncChannel]
  case pairingTimeout p => exact event_keeps h hs fun _ _ => endPairing_held p _ _ hs
  case startupExpiry => exact event_keeps h hs fun _ _ => startup_held hs
  case identityReadComplete v =>
    exact event_keeps h hs fun _ _ => ite_keeps (replay_held 0 hs) (attemptFails_held hs)
  case bankWriteComplete => exact whenPowered_keeps h hs fun _ => bankWritten_held hs
  case verifyReadComplete v => exact whenPowered_keeps h hs fun _ => verified_held v hs
  case stallExpiry => exact event_keeps h hs fun _ _ => attemptFails_held hs
  case drdyCapture =>
    refine whenPowered_keeps h hs fun _ => ite_keeps (drdyRunning_held hs) ?_
    exact hs
  case sampleBurstComplete b => exact whenPowered_keeps h hs fun _ => burstDone_held b hs
  case passThroughComplete v => exact whenPowered_keeps h hs fun _ => passDone_held v hs
  case measurementRound r o => exact event_keeps h hs fun _ _ => round_held r o hs
  case batteryLowDebounceExpiry => exact event_keeps h hs fun _ _ => enterFinishing_held hs
  case holdExpiry => exact event_keeps h hs fun _ _ => shutDown_held _ hs
  case mrailPgRise => exact whenPowered_keeps h hs fun _ => railUp_held hs
  case rampTimeout => exact event_keeps h hs fun _ _ => railGoesOff_held (.inl rfl) hs
  case fetch p n => exact whenPowered_keeps h hs fun _ => fetched_held p n hs
  case busyRefusal p kind f => exact event_keeps h hs fun _ _ => refuseBusy_held p f hs
  case unknownKind p kind f => exact event_keeps h hs fun _ _ => unknownRequest_held p kind f hs
  case generatorPeriodStart g => cases g <;> exact held_keep hfoot rfl hs
  case generatorWidthEnd g => cases g <;> exact held_keep hfoot rfl hs
  all_goals exact held_keep hfoot rfl hs

theorem exec_keeps_owners (c : Instr) (s t : State) (hs : s.OwnersHeld none) (h : exec c s = .next t) :
    t.OwnersHeld none := by
  cases hreq : c.asRequest with
  | none => exact event_keeps_owners hreq hs h
  | some r =>
    obtain ⟨k, p, f⟩ := r
    obtain ⟨pg, hexec⟩ := exec_request hreq
    rw [hexec] at h
    exact doRequest_held (fun u hu hpre => rule_held pg k hu hpre) hs h

/-- Settles O58: a request in flight is owed by the one part of the machine that keeps it; each completion ends the
wait with what owed it, and between taking and answer the port of a request owes nothing. -/
theorem stepKeepsOwners : Obligations.StepKeepsOwners := by
  intro s t hs h
  rw [ownersOk_iff] at hs ⊢
  exact step_keeps_of_exec (ownersHeld_reads none) rfl exec_keeps_owners hs h

end Sys2Proof.Machine

/-! # What each command does: the shared ways

Most requests have a rule of their own that reads and writes blocks, never the port that took them. Such a rule can be
computed on the state before the taking: `Local` says so, and `doRequest_local` gives the state after the request. -/

namespace Sys2Proof.Machine

namespace State

/-! ### Requests answered at once -/

/-- A rule that answers at once, computed on the state that has taken the request. -/
theorem doRequest_done {s u : State} {p : Port} {k : Kind} {f : Frame} {st : Status} {b : List Byte}
    {act : Port → List Byte → State → State × Reply} (hadm : s.Admits p k f)
    (hact : act p f.body (s.take p (Kind.code k) f) = (u.take p (Kind.code k) f, .done st b)) :
    s.doRequest k act p f = .next (u.replied p f (reply st k b)) := by
  rw [doRequest_admitted act hadm, hact, settle_done, take_answer]

/-- The rule neither reads nor writes what taking the request writes. -/
def Local (act : Port → List Byte → State → State × Reply) : Prop :=
  ∀ (p : Port) (b : List Byte) (s : State) (c : Byte) (f : Frame),
    act p b (s.take p c f) = ((act p b s).1.take p c f, (act p b s).2)

theorem doRequest_local {s u : State} {p : Port} {k : Kind} {f : Frame} {st : Status} {b : List Byte}
    {act : Port → List Byte → State → State × Reply} (hloc : Local act) (hadm : s.Admits p k f)
    (hact : act p f.body s = (u, .done st b)) :
    s.doRequest k act p f = .next (u.replied p f (reply st k b)) :=
  doRequest_done hadm (by rw [hloc, hact])

theorem flying_eq_take (s : State) (p : Port) (k : Kind) (f : Frame) : s.flying p k f = s.take p (Kind.code k) f := by
  cases p <;> rfl

/-! ### Every command completes -/

theorem exec_completes (c : Instr) (s : State) : ∃ t, exec c s = .next t := by
  cases c <;> exact ⟨_, rfl⟩

/-- What a command does not list, it leaves as it was. -/
theorem exec_same {c : Instr} {s t : State} (h : exec c s = .next t) {x : Piece} (hx : Piece.apart [x] c.touches = true) :
    Piece.Same s t x :=
  (exec_touches h).same x (Piece.not_mem_of_apart hx (List.mem_singleton.mpr rfl))

theorem apart_pending (c : Instr) : Piece.apart [.pending] c.touches = true := by
  cases c
  case generatorPeriodStart g => cases g <;> rfl
  case generatorWidthEnd g => cases g <;> rfl
  all_goals rfl

end State

/-- Settles O1. -/
theorem queueIsServedInOrder : Obligations.QueueIsServedInOrder := by
  refine ⟨fun c s rest => rfl, fun s h => ?_⟩
  unfold step
  rw [h]

/-- Settles O2: a command's outcome is always a next state, and no command lists the queue among what it touches. -/
theorem everyCommandCompletes : Obligations.EveryCommandCompletes := by
  intro c s
  obtain ⟨t, ht⟩ := State.exec_completes c s
  exact ⟨t, ht, State.exec_same ht (State.apart_pending c)⟩

/-- Settles O3: every command but POR and RETENTION_LOSS acts under `whenPowered`. -/
theorem nothingHappensWithoutVsys : Obligations.NothingHappensWithoutVsys := by
  intro c s hv hret hpor
  cases c
  case por v l => exact absurd rfl (hpor v l)
  case retentionLoss => exact absurd rfl hret
  all_goals exact congrArg Host.Outcome.next (if_neg (by simp [hv]))

/-! ### The checks of a request -/

/-- R194, step 3: what denies a kind to a port. -/
theorem State.allowed_eq_false_iff (s : State) (p : Port) (k : Kind) : s.allowed p k = false ↔
    (∃ x, k.policyClass = some x ∧ (s.policy.row p).allows x = false)
      ∨ (p = .a ∧ (k = .policySet ∨ k = .policyLock ∨ k = .softReset)) := by
  unfold State.allowed
  cases k <;> cases p <;> simp [Kind.portBOnly, Kind.policyClass]

theorem State.precheck_badLength {s : State} {p : Port} {k : Kind} {f : Frame}
    (h : ¬ ∃ l, f.len = some l ∧ l.toNat = k.bodyLen ∧ f.body.length = k.bodyLen) :
    s.precheck p k f = some .badLength := by
  rw [← Frame.lengthOk_iff, Bool.not_eq_true] at h
  simp [State.precheck, h]

theorem State.precheck_denied {s : State} {p : Port} {k : Kind} {f : Frame}
    (hlen : ∃ l, f.len = some l ∧ l.toNat = k.bodyLen ∧ f.body.length = k.bodyLen) (hden : s.allowed p k = false) :
    s.precheck p k f = some .denied := by
  rw [← Frame.lengthOk_iff] at hlen
  simp [State.precheck, hlen, hden]

/-- A request that passes the checks has a body of its kind's length. -/
theorem State.Admits.body_length {s : State} {p : Port} {k : Kind} {f : Frame} (h : s.Admits p k f) :
    f.body.length = k.bodyLen := by
  by_contra hne
  have := State.precheck_badLength (s := s) (p := p) fun ⟨_, _, _, hb⟩ => hne hb
  exact absurd (h.2.2.symm.trans this) (by simp)

/-- Settles O4: the three ways `request` refuses, each with the lemma that says when. -/
theorem requestChecksInOrder : Obligations.RequestChecksInOrder := by
  refine ⟨fun c k p f s hc hv hw => ?_, fun c k p f s hc hv hw hlen => ?_, fun c k p f l s hc hv hw hl hn hb hden => ?_⟩
  all_goals
    obtain ⟨pg, hexec⟩ := exec_request hc
    rw [hexec]
  · exact State.doRequest_busy _ _ hv hw
  · exact State.doRequest_refused _ hv hw (State.precheck_badLength hlen)
  · exact State.doRequest_refused _ hv hw
      (State.precheck_denied ⟨l, hl, hn, hb⟩ ((State.allowed_eq_false_iff s p k).mpr hden))

/-! ### Transfers -/

/-- Settles O5. -/
theorem unknownAndBusyTransfers : Obligations.UnknownAndBusyTransfers := by
  refine ⟨fun p kind f s hv hreq => ⟨fun hk hw => ?_, fun hw => ?_⟩, fun x => ?_, fun m f n b hn hb => ?_,
    fun p a s => ⟨rfl, rfl⟩⟩
  · have hcond : (isRequestByte p kind && !Kind.known kind) = true := by simp [hreq, hk]
    dsimp only [exec, execUnknownKind]
    rw [State.event_taken _ hv hcond, State.unknownRequest, if_neg hw, State.take_answer]
  · dsimp only [exec, execBusyRefusal]
    rw [State.event_taken _ hv (by simp [hreq, hw])]
    rfl
  · refine ⟨rfl, fun hw b => PortState.met_of_working b hw, ?_, ?_, ?_, ?_⟩
    · intro h
      simp [PortState.met, h]
    · intro h
      simp [PortState.met, h]
    · intro h hw
      simp [PortState.met, h, hw]
    · intro h
      simp [PortState.met, h]
  · subst hn hb
    refine ⟨?_, rfl⟩
    cases m <;> cases hl : f.len <;> simp [requestSends, SlotState.byte, Frame.wireLen, hl, Nat.add_comm]

/-- Settles O6. -/
theorem fetchHandsOver : Obligations.FetchHandsOver := by
  intro p n s hv
  refine ⟨(s.port p).slot.handOver, (s.port p).slot.afterFetch, (s.port p).slot.state.byte, ?_, ?_, ?_, ?_⟩
  · dsimp only [exec, execFetch]
    rw [State.whenPowered_on _ hv]
    cases p <;> rfl
  all_goals
    intros
    simp_all [Slot.handOver, Slot.afterFetch, Slot.state, SlotState.byte]

end Sys2Proof.Machine

/-! # Notices, policy and time -/

namespace Sys2Proof.Machine

/-! ### Bytes that are codes of two values -/

/-- Every entry is 0 or 1. -/
theorem codesOk_iff (b : List Byte) : codesOk b = true ↔ ∀ x ∈ b, x.toNat ≤ 1 := by
  simp [codesOk]

theorem codesOk_eq_not_any (b : List Byte) : codesOk b = !b.any fun x => decide (1 < x.toNat) := by
  rw [Bool.eq_iff_iff]
  simp [codesOk]

theorem byte_of_le_one {x : Byte} (h : x.toNat ≤ 1) : x = 0 ∨ x = 1 := by
  have : x.toNat = 0 ∨ x.toNat = 1 := by omega
  exact this.imp BitVec.eq_of_toNat_eq BitVec.eq_of_toNat_eq

/-- A list of bytes read as binary digits, the first in bit 0. -/
theorem testBit_digits (l : List Byte) (i : Nat) :
    (l.foldr (fun x acc => 2 * acc + (if x = 0 then 0 else 1)) 0).testBit i = (l.getD i 0 != 0) := by
  induction l generalizing i with
  | nil => simp
  | cons x xs ih =>
    cases i with
    | zero =>
      rw [List.foldr_cons, Nat.testBit_zero, List.getD_cons_zero, Nat.mul_add_mod]
      split <;> simp_all
    | succ i =>
      have hdiv : (2 * xs.foldr (fun x acc => 2 * acc + (if x = 0 then 0 else 1)) 0 + (if x = 0 then 0 else 1)) / 2
          = xs.foldr (fun x acc => 2 * acc + (if x = 0 then 0 else 1)) 0 := by
        split <;> omega
      rw [List.foldr_cons, Nat.testBit_succ, hdiv, ih, List.getD_cons_succ]

/-- R202: bit `i` of the mask is entry `i`. -/
theorem getLsbD_readMask {b : List Byte} (hlen : b.length = 16) (h : ∀ x ∈ b, x.toNat ≤ 1) (i : Fin 16) :
    (readMask b).getLsbD i.val = decide (byteAt b i.val = 1) := by
  have hb : byteAt b i.val = 0 ∨ byteAt b i.val = 1 := by
    refine byte_of_le_one (h _ ?_)
    rw [byteAt, List.getD_eq_getElem _ _ (by omega)]
    exact List.getElem_mem _
  rw [readMask, BitVec.getLsbD_ofNat, List.take_of_length_le (by omega), testBit_digits]
  change (decide _ && (byteAt b i.val != 0)) = _
  obtain hb | hb := hb <;> simp [hb]

/-- A byte that is 0 or 1 is the code of the flag read from it. -/
theorem encBool_flagAt {b : List Byte} (h : ∀ x ∈ b, x.toNat ≤ 1) {i : Nat} (hi : i < b.length) :
    encBool (flagAt b i) = [byteAt b i] := by
  have hb : byteAt b i = 0 ∨ byteAt b i = 1 := by
    refine byte_of_le_one (h _ ?_)
    rw [byteAt, List.getD_eq_getElem _ _ hi]
    exact List.getElem_mem _
  obtain hb | hb := hb <;> simp [encBool, flagAt, hb]

theorem map_byteAt_range (b : List Byte) : (List.range b.length).map (byteAt b) = b := by
  refine List.ext_getElem (by simp) fun i h₁ h₂ => ?_
  simp [byteAt, h₂]

/-- R197: the table read from sixteen codes is written as those codes. -/
theorem enc_readRow {b : List Byte} (hlen : b.length = 16) (h : ∀ x ∈ b, x.toNat ≤ 1) :
    ({ a := readRow b 0, b := readRow b 8 } : PolicyTable).enc = b := by
  calc ({ a := readRow b 0, b := readRow b 8 } : PolicyTable).enc
      = (List.range b.length).flatMap fun i => encBool (flagAt b i) := by rw [hlen]; rfl
    _ = (List.range b.length).flatMap fun i => [byteAt b i] :=
        List.flatMap_congr fun i hi => encBool_flagAt h (List.mem_range.mp hi)
    _ = b := by rw [← List.map_eq_flatMap, map_byteAt_range]

/-! ### The rules of chapter 10 and of time -/

namespace State

theorem noticeMask_local : Local noticeMask := by
  intro p b s c f
  unfold noticeMask
  split <;> cases p <;> rfl

theorem policySet_local : Local policySet := by
  intro p b s c f
  unfold policySet
  rw [take_locked]
  split
  · rfl
  · split <;> cases p <;> rfl

theorem policyLock_local : Local policyLock := by
  intro p b s c f
  cases p <;> rfl

theorem identify_local : Local identify := by
  intro p b s c f
  cases p <;> rfl

theorem timeRead_local : Local timeRead := by
  intro p b s c f
  cases p <;> rfl

end State

theorem noticeMask_refused {p : Port} {b : List Byte} (s : State) (h : ∃ x ∈ b, 1 < x.toNat) :
    noticeMask p b s = (s, .done .badValue []) := by
  have hno : ¬ codesOk b = true := by
    rw [codesOk_iff]
    obtain ⟨x, hx, hlt⟩ := h
    exact fun hall => absurd (hall x hx) (by omega)
  exact if_neg hno

theorem noticeMask_taken {p : Port} {b : List Byte} (s : State) (h : ∀ x ∈ b, x.toNat ≤ 1) :
    noticeMask p b s = (s.setPort p ((s.port p).withMask (readMask b)),
      .done .ok (beBytes 2 (readMask b).toNat ++ beBytes 2 (s.port p).notices.toNat)) :=
  if_pos ((codesOk_iff b).mpr h)

/-- Settles O7. -/
theorem noticesAndAttn : Obligations.NoticesAndAttn := by
  refine ⟨fun p f s hadm => ?_, fun p f s hadm => ⟨fun hbad => ?_, fun hok => ?_⟩, fun n s => ⟨rfl, fun p => ?_⟩⟩
  · dsimp only [exec, execNoticeRead]
    refine State.doRequest_done hadm ?_
    have hattn : attnLevel 0 (s.port p).mask = .low := by simp [attnLevel]
    cases p <;> rw [← hattn] <;> rfl
  · exact State.doRequest_local State.noticeMask_local hadm (noticeMask_refused s hbad)
  · exact ⟨readMask f.body, getLsbD_readMask hadm.body_length hok,
      State.doRequest_local State.noticeMask_local hadm (noticeMask_taken s hok)⟩
  · rw [State.port_raise]
    rfl

/-- R198: the policy is locked, as it is in `t`. -/
def LockedAs (t : PolicyTable) (s : State) : Prop := s.locked = true ∧ s.policy = t

theorem lockedAs_reads (t : PolicyTable) : Reads [.policy] (LockedAs t) := by
  intro s u h hs
  obtain ⟨hpolicy, hlocked⟩ : u.policy = s.policy ∧ u.locked = s.locked := h .policy (List.mem_singleton.mpr rfl)
  exact ⟨hlocked.trans hs.1, hpolicy.trans hs.2⟩

theorem policySet_lockedAs {t : PolicyTable} (p : Port) (b : List Byte) {s : State} (h : LockedAs t s) :
    LockedAs t (policySet p b s).1 := by
  unfold policySet
  split
  · exact h
  · rw [if_pos h.1]
    exact h

/-- R198: no command but POR changes a locked policy or unlocks it. -/
theorem exec_keeps_lockedAs {t : PolicyTable} {c : Instr} {s u : State} (hs : LockedAs t s) (hpor : ∀ v l, c ≠ .por v l)
    (h : exec c s = .next u) : LockedAs t u := by
  have hfoot := exec_touches h
  cases c
  case por v l => exact absurd rfl (hpor v l)
  case policySet p f => exact doRequest_keeps (lockedAs_reads t) rfl (fun _ => policySet_lockedAs p f.body) hs h
  case policyLock p f => exact doRequest_keeps (lockedAs_reads t) rfl (fun _ hu => ⟨rfl, hu.2⟩) hs h
  case generatorPeriodStart g => cases g <;> exact Reads.keep (lockedAs_reads t) hfoot rfl hs
  case generatorWidthEnd g => cases g <;> exact Reads.keep (lockedAs_reads t) hfoot rfl hs
  all_goals exact Reads.keep (lockedAs_reads t) hfoot rfl hs

theorem policySet_eq {p : Port} {b : List Byte} (s : State) (hlen : b.length = 16) : ∃ u st body,
    policySet p b s = (u, .done st body)
    ∧ ∀ f : Frame, f.body = b → u.replied p f (reply st .policySet body)
      = if b.any (fun x => decide (1 < x.toNat)) then s.replied p f (reply .badValue .policySet [])
        else if s.locked then s.replied p f (reply .denied .policySet [])
        else ({ s with policy := { a := readRow b 0, b := readRow b 8 } }).replied p f (reply .ok .policySet b) := by
  unfold policySet
  rw [codesOk_eq_not_any, Bool.not_not]
  cases hany : b.any fun x => decide (1 < x.toNat)
  · cases hlock : s.locked
    · have hle : ∀ x ∈ b, x.toNat ≤ 1 := by simpa using hany
      refine ⟨_, _, _, rfl, fun f _ => ?_⟩
      rw [enc_readRow hlen hle]
      rfl
    · exact ⟨_, _, _, rfl, fun _ _ => rfl⟩
  · exact ⟨_, _, _, rfl, fun _ _ => rfl⟩

/-- Settles O8. -/
theorem policyRequests : Obligations.PolicyRequests := by
  refine ⟨fun p f s hadm => ?_, fun p f s hadm => ?_, fun p f s hadm => ?_, fun c s t hlock hpor h => ?_,
    fun s k hdef => ⟨?_, ?_⟩⟩
  · obtain ⟨u, st, body, hact, heq⟩ := policySet_eq (p := p) s hadm.body_length
    rw [← heq f rfl]
    exact State.doRequest_local State.policySet_local hadm hact
  · exact State.doRequest_local State.policyLock_local hadm rfl
  · refine (State.doRequest_local State.identify_local hadm rfl).trans ?_
    cases p <;> rfl
  · exact exec_keeps_lockedAs (t := s.policy) ⟨hlock, rfl⟩ hpor h
  · simp only [State.allowed, hdef]
    cases k <;> decide
  · simp only [State.allowed, hdef]
    cases k <;> decide

/-! ### Time -/

/-- A request in flight: its rule's state, with the request taken. -/
theorem State.doRequest_flying {s u : State} {p : Port} {k : Kind} {f : Frame}
    {act : Port → List Byte → State → State × Reply} (hadm : s.Admits p k f)
    (hact : act p f.body (s.flying p k f) = (u, .inFlight)) : s.doRequest k act p f = .next u := by
  rw [doRequest_admitted act hadm, ← flying_eq_take, hact, settle_inFlight]

theorem State.flying_takings (s : State) (p : Port) (k : Kind) (f : Frame) :
    ((s.flying p k f).port p).takings = (s.port p).takings + 1 := by
  rw [flying, port_setPort]

theorem State.flying_tick (s : State) (p : Port) (k : Kind) (f : Frame) : (s.flying p k f).tick = s.tick := by
  rw [flying, setPort_tick]

theorem endPairing_disarmed {s : State} {p : Port} (st : Status) (b : List Byte) (h : (s.pair p).armed = none) :
    s.endPairing p st b = s := by
  simp [State.endPairing, h]

/-- R9, R10: the TIME_PAIR that armed the channel completes. -/
theorem endPairing_own {s : State} {p : Port} {n : Nat} {k : Byte} (st : Status) (b : List Byte)
    (harmed : (s.pair p).armed = some n) (hslot : (s.port p).slot = .working k n) :
    s.endPairing p st b = (s.setPair p Pairing.disarmed).finish p { status := st, kind := k, body := b } := by
  simp only [State.endPairing, harmed]
  exact State.complete_own st b (by simpa using hslot)

/-- Settles O9. -/
theorem timeAndPairing : Obligations.TimeAndPairing := by
  refine ⟨fun p f s hadm => ?_, fun p f s hadm => ?_, fun p s htick => ?_, fun p s hv hdis => ?_,
    fun p n k s hv harmed hslot => ⟨?_, fun htick => ?_⟩⟩
  · exact State.doRequest_local State.timeRead_local hadm rfl
  · refine State.doRequest_flying hadm ?_
    unfold timePair
    rw [State.flying_takings, State.flying_tick]
  · dsimp only [exec, execPairingTimeout]
    exact State.event_skipped _ (by simpa [State.due] using htick)
  · dsimp only [exec, execSyncCapture]
    rw [State.whenPowered_on _ hv, State.emptied_capture, endPairing_disarmed]
    cases p <;> exact hdis
  · dsimp only [exec, execSyncCapture]
    rw [State.whenPowered_on _ hv, State.emptied_capture, endPairing_own (n := n) (k := k)]
    · rfl
    · cases p <;> exact harmed
    · cases p <;> exact hslot
  · dsimp only [exec, execPairingTimeout]
    rw [State.event_taken _ hv (by simpa [State.due] using htick), endPairing_own _ _ harmed hslot]

theorem tick_succ (t : Tick) : t + 1 = BitVec.ofNat 48 ((t.toNat + 1) % 2 ^ 48) := by
  apply BitVec.eq_of_toNat_eq
  simp [BitVec.toNat_add]

/-- R1, R4: only POR touches the epoch; only POR and TICK_COUNTER_ADVANCE touch the tick. -/
theorem exec_keeps_time {c : Instr} {s t : State} (h : exec c s = .next t) (hpor : ∀ v l, c ≠ .por v l) :
    t.store.epoch = s.store.epoch ∧ (c ≠ .tickCounterAdvance → t.tick = s.tick) := by
  cases c
  case por v l => exact absurd rfl (hpor v l)
  case tickCounterAdvance => exact ⟨State.exec_same (x := .epoch) h rfl, fun hne => absurd rfl hne⟩
  case generatorPeriodStart g =>
    cases g <;> exact ⟨State.exec_same (x := .epoch) h rfl, fun _ => State.exec_same (x := .tick) h rfl⟩
  case generatorWidthEnd g =>
    cases g <;> exact ⟨State.exec_same (x := .epoch) h rfl, fun _ => State.exec_same (x := .tick) h rfl⟩
  all_goals exact ⟨State.exec_same (x := .epoch) h rfl, fun _ => State.exec_same (x := .tick) h rfl⟩

/-- Settles O10. -/
theorem timeMovesOnlyByTickAndPor : Obligations.TimeMovesOnlyByTickAndPor := by
  refine ⟨fun s hv => ?_, fun c s t h hpor => exec_keeps_time h hpor, fun v l s t h => ?_⟩
  · dsimp only [exec, execTickCounterAdvance]
    rw [State.whenPowered_on _ hv, ← tick_succ]
  · cases h
    rfl

end Sys2Proof.Machine

/-! # The wheel and the generators -/

namespace Sys2Proof.Machine

namespace State

/-- The state after a request whose rule was computed on the state before it. -/
def concluded (p : Port) (k : Kind) (f : Frame) : State × Reply → State
  | (u, .done st b) => u.replied p f (reply st k b)
  | (u, .inFlight) => u.take p (Kind.code k) f

/-- A request with a local rule, whatever the rule answers. -/
theorem doRequest_concluded {s : State} {p : Port} {k : Kind} {f : Frame}
    {act : Port → List Byte → State → State × Reply} (hloc : Local act) (hadm : s.Admits p k f) :
    s.doRequest k act p f = .next (concluded p k f (act p f.body s)) := by
  rw [doRequest_admitted act hadm, hloc]
  obtain ⟨u, st | _⟩ := act p f.body s
  · exact congrArg Host.Outcome.next (take_answer ..)
  · rfl

end State

/-! ### The qualifier and the meter -/

theorem qualify_low {c : PendingChange} (s : State) (h : c.level = .low) :
    s.qualify c = { s with qualifier := { s.qualifier with qualified := .low, change := none } } := by
  simp only [State.qualify, h]

theorem qualify_high {c : PendingChange} (s : State) (h : c.level = .high) :
    s.qualify c = { s with qualifier := { s.qualifier with qualified := .high, change := none }
                           channels := { s.channels with wheel := none }, wheel := s.wheel.pulse c.start } := by
  simp only [State.qualify, h]
  rfl

theorem wheelRaw_return {l : Level} (s : State) (h : l = s.qualifier.qualified) :
    s.wheelRaw l = { s with qualifier := { raw := l, qualified := s.qualifier.qualified, change := none } } :=
  if_pos h

theorem wheelRaw_departure {l : Level} (s : State) (h : l ≠ s.qualifier.qualified) (hq : s.wheel.q ≠ 0) :
    s.wheelRaw l = { s with qualifier := { raw := l, qualified := s.qualifier.qualified
                                           change := some (s.qualifier.change.getD { level := l, start := s.tick }) } } :=
  (if_neg h).trans (if_neg hq)

theorem wheelRaw_at_once {l : Level} (s : State) (h : l ≠ s.qualifier.qualified) (hq : s.wheel.q = 0)
    (hc : s.qualifier.change = none) :
    s.wheelRaw l = ({ s with qualifier := { s.qualifier with raw := l } }).qualify { level := l, start := s.tick } := by
  refine (if_neg h).trans ((if_pos hq).trans ?_)
  dsimp only
  rw [hc, Option.getD_none]

theorem exec_wheelRawChange {l : Level} {s : State} (hv : s.store.vsys = true) (hraw : s.qualifier.raw ≠ l) :
    exec (.wheelRawChange l) s = .next (s.wheelRaw l) := by
  dsimp only [exec, execWheelRawChange]
  exact State.event_taken _ hv (by simpa using Ne.symm hraw)

theorem exec_wheelQualification_due {s : State} {c : PendingChange} (hv : s.store.vsys = true)
    (hc : s.qualifier.change = some c) (ht : s.tick = later c.start (s.wheel.q * 64)) :
    exec .wheelQualification s = .next (s.qualify c) := by
  dsimp only [exec, execWheelQualification]
  rw [State.whenPowered_on _ hv]
  simp only [hc]
  exact congrArg _ (if_pos ht)

theorem exec_wheelQualification_idle {s : State}
    (h : ∀ c ∈ s.qualifier.change, s.tick ≠ later c.start (s.wheel.q * 64)) :
    exec .wheelQualification s = .next s := by
  dsimp only [exec, execWheelQualification, State.whenPowered]
  split
  · cases hc : s.qualifier.change with
    | none => rfl
    | some c => exact congrArg _ (if_neg (h c hc))
  · rfl

/-- R13: the table of bands. -/
theorem chooseBand_eq {w : WheelMeter} {p : Nat} (h32 : w.w3 < w.w2) (h21 : w.w2 < w.w1) (hp : w.period = some p) :
    (w.w1 ≤ p → w.chooseBand = 0) ∧ (w.w2 ≤ p → p < w.w1 → w.chooseBand = 1)
    ∧ (w.w3 ≤ p → p < w.w2 → w.chooseBand = 2) ∧ (p < w.w3 → w.chooseBand = 3) := by
  simp only [WheelMeter.chooseBand, hp]
  refine ⟨fun h => if_pos h, fun h h' => ?_, fun h h' => ?_, fun h => ?_⟩
  · rw [if_neg (by omega), if_pos h]
  · rw [if_neg (by omega), if_neg (by omega), if_pos h]
  · rw [if_neg (by omega), if_neg (by omega), if_neg (by omega)]

theorem chooseBand_stopped {w : WheelMeter} (h : w.period = none) : w.chooseBand = 0 := by
  simp only [WheelMeter.chooseBand, h]

/-- R11: the period at a capture, by the capture before it. -/
theorem pulse_period (w : WheelMeter) (c : Tick) : (w.prev = none → (w.pulse c).period = none)
    ∧ (∀ p, w.prev = some p → 2097152 < dist c p → (w.pulse c).period = none)
    ∧ (∀ p, w.prev = some p → dist c p ≤ 2097152 → (w.pulse c).period = some (max 1 (dist c p))) := by
  simp only [WheelMeter.pulse, WheelMeter.reband]
  refine ⟨fun h => by rw [h], fun p h hlt => ?_, fun p h hle => ?_⟩
  · rw [h]
    exact if_neg (Nat.not_le.mpr hlt)
  · rw [h]
    exact if_pos hle

/-- Settles O11. -/
theorem wheelPulses : Obligations.WheelPulses := by
  refine ⟨fun l s hv hraw hl => ?_, fun l s hv hraw hl hq => ?_, fun l s hv hraw hl hq hc => ?_,
    fun c s hv hc ht => exec_wheelQualification_due hv hc ht, fun s h => exec_wheelQualification_idle h,
    fun c s h => qualify_low s h, fun c s h => qualify_high s h, fun w c => ?_⟩
  · rw [exec_wheelRawChange hv hraw, wheelRaw_return s hl]
  · rw [exec_wheelRawChange hv hraw, wheelRaw_departure s hl hq]
  · rw [exec_wheelRawChange hv hraw, wheelRaw_at_once s hl hq hc]
  · obtain ⟨hnone, hfar, hnear⟩ := pulse_period w c
    exact ⟨rfl, rfl, hnone, hfar, hnear, rfl, rfl, rfl, rfl, fun h => chooseBand_stopped h,
      fun h32 h21 p hp => chooseBand_eq (w := w.pulse c) h32 h21 hp⟩

/-! ### The meter's requests -/

theorem State.requalify_kept {s : State} (h : ∀ c ∈ s.qualifier.change, dist s.tick c.start ≤ s.wheel.q * 64) :
    s.requalify = s := by
  unfold requalify
  cases hc : s.qualifier.change with
  | none => rfl
  | some c => exact if_neg (Nat.not_lt.mpr (h c hc))

theorem State.requalify_passed {s : State} {c : PendingChange} (hc : s.qualifier.change = some c)
    (h : s.wheel.q * 64 < dist s.tick c.start) : s.requalify = s.qualify c := by
  unfold requalify
  rw [hc]
  exact if_pos h

theorem State.take_requalify (s : State) (p : Port) (x : Byte) (f : Frame) :
    (s.take p x f).requalify = s.requalify.take p x f := by
  unfold requalify
  rw [take_qualifier, take_tick, take_wheel]
  split
  · split
    · cases p <;> (unfold qualify; dsimp only; split <;> rfl)
    · rfl
  · rfl

theorem wheelSet_local : State.Local wheelSet := by
  intro p b s x f
  unfold wheelSet
  dsimp only
  split
  · rw [← State.take_requalify]
    cases p <;> rfl
  · rfl

theorem wheelRead_local : State.Local wheelRead := by
  intro p b s x f
  cases p <;> rfl

theorem field_one_le (b : List Byte) (i : Nat) : field b i 1 ≤ 255 := by
  rw [field_one]
  have := (byteAt b i).isLt
  omega

theorem clamp_field_one (b : List Byte) (i : Nat) : clamp 0 255 (field b i 1) = field b i 1 := by
  have := field_one_le b i
  simp [clamp, this]

/-- R14: the meter that WHEEL_SET leaves, before a pending change is weighed again. -/
def WheelMeter.tuned (w : WheelMeter) (q w1 w2 w3 : Nat) : WheelMeter :=
  ({ w with q := q, w1 := w1, w2 := w2, w3 := w3 }).reband

theorem wheelSet_refused {p : Port} {b : List Byte} (s : State)
    (h : ¬ (clamp 1 2097152 (field b 5 4) < clamp 1 2097152 (field b 1 4)
      ∧ clamp 1 2097152 (field b 9 4) < clamp 1 2097152 (field b 5 4))) :
    wheelSet p b s = (s, .done .badValue []) :=
  if_neg h

theorem wheelSet_taken {p : Port} {b : List Byte} {w1 w2 w3 : Nat} (s : State)
    (h1 : w1 = clamp 1 2097152 (field b 1 4)) (h2 : w2 = clamp 1 2097152 (field b 5 4))
    (h3 : w3 = clamp 1 2097152 (field b 9 4)) (h21 : w2 < w1) (h32 : w3 < w2) :
    wheelSet p b s = (({ s with wheel := s.wheel.tuned (field b 0 1) w1 w2 w3 } : State).requalify,
      .done .ok (beBytes 1 (field b 0 1) ++ beBytes 4 w1 ++ beBytes 4 w2 ++ beBytes 4 w3)) := by
  subst h1 h2 h3
  unfold wheelSet
  rw [clamp_field_one]
  exact if_pos ⟨h21, h32⟩

/-- Settles O12. -/
theorem wheelMeterCommands : Obligations.WheelMeterCommands := by
  refine ⟨fun s hv hstop => ?_, fun p f s hadm => ?_, fun p f w1 w2 w3 s hadm h1 h2 h3 =>
    ⟨fun h => ?_, fun h21 h32 hkept => ?_, fun h21 h32 c hc hpast => ?_⟩⟩
  · dsimp only [exec, execStopTimerExpiry]
    exact State.event_taken _ hv ((State.due_iff ..).mpr hstop)
  · refine (State.doRequest_local wheelRead_local hadm rfl).trans ?_
    cases s.wheel.period <;> simp [encOpt, WheelMeter.encSettings]
  · subst h1 h2 h3
    exact State.doRequest_local wheelSet_local hadm (wheelSet_refused s h)
  · have hset := wheelSet_taken (p := p) s h1 h2 h3 h21 h32
    rw [State.requalify_kept hkept] at hset
    exact State.doRequest_local wheelSet_local hadm hset
  · have hset := wheelSet_taken (p := p) s h1 h2 h3 h21 h32
    rw [State.requalify_passed (s := { s with wheel := s.wheel.tuned (field f.body 0 1) w1 w2 w3 }) hc hpast] at hset
    exact State.doRequest_local wheelSet_local hadm hset

/-! ### The generators -/

theorem Generator.periodDue_of {g : Generator} {now : Tick} (hr : g.running = true) (ht : now = later g.start g.period) :
    g.periodDue now = true := by
  simp [periodDue, hr, ← ht]

/-- R16, R18: the next period runs with the staged values, or with the present ones. -/
theorem Generator.nextPeriod_eq {g : Generator} {p w : Nat} (now : Tick) (hr : g.running = true)
    (hstaged : ∀ x ∈ g.staged, p = x.period ∧ w = x.width) (hown : g.staged = none → p = g.period ∧ w = g.width) :
    g.nextPeriod now = { running := true, period := p, width := w, start := now, staged := none
                         output := if w = 0 then .low else .high } := by
  cases hs : g.staged with
  | none =>
    obtain ⟨rfl, rfl⟩ := hown hs
    simp [nextPeriod, hs, hr, pulseLevel]
  | some x =>
    obtain ⟨rfl, rfl⟩ := hstaged x hs
    simp [nextPeriod, hs, hr, pulseLevel]

/-- Settles O13. -/
theorem generatorEdges : Obligations.GeneratorEdges := by
  refine ⟨fun g p w s hv hr ht hstaged hown => ⟨_, rfl, ?_⟩, fun g s hv hr hw hwp ht => ?_⟩
  · dsimp only [exec, execGeneratorPeriodStart]
    rw [State.event_taken _ hv (Generator.periodDue_of hr ht), Generator.nextPeriod_eq s.tick hr hstaged hown]
    cases g <;> rfl
  · dsimp only [exec, execGeneratorWidthEnd]
    refine State.event_taken _ hv ?_
    simp [Generator.widthDue, hr, hw, hwp, ← ht]

end Sys2Proof.Machine

/-! # Which blocks an operation writes

A statement that an operation changes these blocks and nothing else is an equation between whole states. `Block` names
the fields of the state, and `State.Writes bs s t` says that from `s` to `t` only the blocks of `bs` have changed. -/

namespace Sys2Proof.Machine

/-- A field of the state. -/
inductive Block where
  | tick | channels | qualifier | wheel | pairA | pairB | ftrig | iset | link | motion | frames | catalogue | store
  | supply | charge | gauge | portA | portB | policy | locked | pending
  deriving DecidableEq

/-- The block is the same in `t` as in `s`. -/
@[simp] def Block.Same (s t : State) : Block → Prop
  | .tick => t.tick = s.tick
  | .channels => t.channels = s.channels
  | .qualifier => t.qualifier = s.qualifier
  | .wheel => t.wheel = s.wheel
  | .pairA => t.pairA = s.pairA
  | .pairB => t.pairB = s.pairB
  | .ftrig => t.ftrig = s.ftrig
  | .iset => t.iset = s.iset
  | .link => t.link = s.link
  | .motion => t.motion = s.motion
  | .frames => t.frames = s.frames
  | .catalogue => t.catalogue = s.catalogue
  | .store => t.store = s.store
  | .supply => t.supply = s.supply
  | .charge => t.charge = s.charge
  | .gauge => t.gauge = s.gauge
  | .portA => t.portA = s.portA
  | .portB => t.portB = s.portB
  | .policy => t.policy = s.policy
  | .locked => t.locked = s.locked
  | .pending => t.pending = s.pending

theorem Block.forall_iff (P : Block → Prop) : (∀ b, P b) ↔
    P .tick ∧ P .channels ∧ P .qualifier ∧ P .wheel ∧ P .pairA ∧ P .pairB ∧ P .ftrig ∧ P .iset ∧ P .link ∧ P .motion
    ∧ P .frames ∧ P .catalogue ∧ P .store ∧ P .supply ∧ P .charge ∧ P .gauge ∧ P .portA ∧ P .portB ∧ P .policy
    ∧ P .locked ∧ P .pending := by
  constructor
  · intro h
    exact ⟨h _, h _, h _, h _, h _, h _, h _, h _, h _, h _, h _, h _, h _, h _, h _, h _, h _, h _, h _, h _, h _⟩
  · intro h b
    cases b <;> simp only [h]

/-- The state is its blocks. -/
theorem State.eq_iff_same (s t : State) : t = s ↔ ∀ b, Block.Same s t b := by
  constructor
  · rintro rfl b
    cases b <;> rfl
  · intro h
    rw [Block.forall_iff] at h
    cases s
    cases t
    simpa using h

/-- From `s` to `t` only the blocks of `bs` have changed. -/
def State.Writes (bs : List Block) (s t : State) : Prop := ∀ b, b ∉ bs → Block.Same s t b

namespace State

section
variable {bs cs : List Block} {s t u : State}

theorem Writes.refl (bs : List Block) (s : State) : Writes bs s s := by
  intro b _
  cases b <;> rfl

theorem Writes.trans (h : Writes bs s t) (g : Writes bs t u) : Writes bs s u := by
  intro b hb
  have hst := h b hb
  have htu := g b hb
  cases b <;> exact htu.trans hst

theorem Writes.mono (h : Writes bs s t) (hsub : ∀ b ∈ bs, b ∈ cs) : Writes cs s t :=
  fun b hb => h b fun hin => hb (hsub b hin)

theorem Writes.ite {c : Prop} [Decidable c] (ht : Writes bs s t) (hu : Writes bs s u) :
    Writes bs s (if c then t else u) := by
  split <;> assumption

/-- One operation after another, each with its own list. -/
theorem Writes.andThen {ds : List Block} (h : Writes bs s t) (g : Writes cs t u) (hbs : ∀ b ∈ bs, b ∈ ds)
    (hcs : ∀ b ∈ cs, b ∈ ds) : Writes ds s u :=
  (h.mono hbs).trans (g.mono hcs)

end

/-! ### The shared operations -/

theorem setPort_writes (s : State) (p : Port) (x : PortState) : Writes [.portA, .portB] s (s.setPort p x) := by
  cases p <;> simp [Writes, Block.forall_iff, setPort]

theorem complete_writes (s : State) (t : Ticket) (st : Status) (b : List Byte) :
    Writes [.portA, .portB] s (s.complete t st b) := by
  obtain h | ⟨c, -, h⟩ := complete_cases s t st b <;> rw [h]
  · exact .refl _ _
  · exact setPort_writes s t.port _

/-- R199: a notice that is not routed to Port A leaves Port A as it was. -/
theorem raise_writes_portB {n : Notice} (s : State) (h : n.routed .a = false) : Writes [.portB] s (s.raise n) := by
  simp [Writes, Block.forall_iff, raise, h]

theorem raise_writes_portA {n : Notice} (s : State) (h : n.routed .b = false) : Writes [.portA] s (s.raise n) := by
  simp [Writes, Block.forall_iff, raise, h]

theorem raise_writes (n : Notice) (s : State) : Writes [.portA, .portB] s (s.raise n) := by
  simp [Writes, Block.forall_iff]

/-! ### Marks, protection and records -/

theorem shockMark_writes (s : State) (start : Tick) (peak : Nat) (band : Fin 4) :
    Writes [.catalogue] s (s.shockMark start peak band) := by
  unfold shockMark
  split
  · refine Writes.ite ?_ (.refl _ _)
    simp [Writes, Block.forall_iff]
  · exact .refl _ _

theorem shockEvent_writes (s : State) (e : Episode) : Writes [.catalogue, .portB] s (s.shockEvent e) :=
  (shockMark_writes s e.start e.peak e.band).andThen (raise_writes_portB _ rfl) (by simp) (by simp)

theorem episodeEnd_writes (s : State) (e : Episode) : Writes [.motion, .catalogue, .portB] s (s.episodeEnd e) := by
  have hshock : Writes [.motion, .catalogue, .portB] s (s.shockEvent e) :=
    (shockEvent_writes s e).mono (by simp)
  refine Writes.ite ?_ hshock
  exact hshock.andThen (cs := [.motion]) (by simp [Writes, Block.forall_iff, beginWatch]) (by simp) (by simp)

theorem motionStop_writes (s : State) : Writes [.motion, .catalogue, .portB] s s.motionStop := by
  have hempty : Writes [.motion] s { s with motion := { s.motion.emptyStill with episode := none, watch := none } } := by
    simp [Writes, Block.forall_iff]
  unfold motionStop
  dsimp only
  split
  · exact hempty.andThen (shockEvent_writes _ _) (by simp) (by simp)
  · exact hempty.mono (by simp)

theorem countBand_writes (s : State) (r : CorrRec) : Writes [.catalogue] s (s.countBand r) := by
  unfold countBand
  split
  · refine Writes.ite ?_ (.refl _ _)
    simp [Writes, Block.forall_iff]
  · exact .refl _ _

theorem deliver_writes (s : State) (r : CorrRec) : Writes [.frames, .catalogue, .portA] s (s.deliver r) := by
  have hjoin : Writes [.frames] s { s with frames := { s.frames with queue := joinQueue s.frames.queue r } } := by
    simp [Writes, Block.forall_iff]
  have hready : Writes [.frames, .portA] s
      (if s.frames.params.watermark ≤ (joinQueue s.frames.queue r).length then
        ({ s with frames := { s.frames with queue := joinQueue s.frames.queue r } } : State).raise .corrReady
      else { s with frames := { s.frames with queue := joinQueue s.frames.queue r } }) :=
    Writes.ite (hjoin.andThen (raise_writes_portA _ rfl) (by simp) (by simp)) (hjoin.mono (by simp))
  exact hready.andThen (countBand_writes _ r) (by simp) (by simp)

theorem formBand_writes (s : State) (b : Band) (x : Found) :
    Writes [.frames, .catalogue, .portA] s (s.formBand b x) := by
  have htail : Writes [.frames] s { s with frames := { s.frames with bands := s.frames.bands.tail } } := by
    simp [Writes, Block.forall_iff]
  exact htail.andThen (deliver_writes _ _) (by simp) (by simp)

theorem examineN_writes (n : Nat) (s : State) : Writes [.frames, .catalogue, .portA] s (s.examineN n) := by
  induction n generalizing s with
  | zero => exact .refl _ _
  | succ n ih =>
    unfold examineN
    split
    · exact .refl _ _
    · split
      · exact (formBand_writes s _ _).trans (ih _)
      · exact .refl _ _

theorem examine_writes (s : State) : Writes [.frames, .catalogue, .portA] s s.examine := examineN_writes _ s

/-- R105 to R107: the catalogue's part of a crash event changes clip records alone. -/
theorem crashProtect_eq (s : State) (start : Tick) : ∃ c : Catalogue,
    (s.crashProtect start).1 = { s with catalogue := c } := by
  unfold crashProtect
  dsimp only
  split
  · exact ⟨s.catalogue, rfl⟩
  · split
    · exact ⟨_, rfl⟩
    · split
      · split
        · exact ⟨_, rfl⟩
        · exact ⟨s.catalogue, rfl⟩
      · exact ⟨s.catalogue, rfl⟩

theorem crashMark_writes (s : State) (named : Option Nat) (start : Tick) (peak : Nat) :
    Writes [.catalogue] s (s.crashMark named start peak) := by
  cases named <;> simp [Writes, Block.forall_iff, crashMark]

/-- R55: a found crash ends the watch. -/
def watchEnded (s : State) : State := { s with motion := { s.motion with watch := none } }

theorem crashEvent_eq (s : State) (w : Watch) : s.crashEvent w =
    ((s.watchEnded.crashProtect w.start).1.crashMark (s.watchEnded.crashProtect w.start).2 w.start w.peak).raise
      .crash := rfl

theorem crashEvent_writes (s : State) (w : Watch) :
    Writes [.motion, .catalogue, .portA, .portB] s (s.crashEvent w) := by
  have hwatch : Writes [.motion] s s.watchEnded := by
    simp [Writes, Block.forall_iff, watchEnded]
  have hprot : Writes [.catalogue] s.watchEnded (s.watchEnded.crashProtect w.start).1 := by
    obtain ⟨c, hc⟩ := crashProtect_eq s.watchEnded w.start
    simp [Writes, Block.forall_iff, hc]
  rw [crashEvent_eq]
  have hmark := (hwatch.andThen (ds := [.motion, .catalogue]) hprot (by simp) (by simp)).andThen
    (ds := [.motion, .catalogue]) (crashMark_writes _ (s.watchEnded.crashProtect w.start).2 w.start w.peak)
    (by simp) (by simp)
  exact hmark.andThen (raise_writes .crash _) (by simp) (by simp)

theorem crashCheck_writes (s : State) : Writes [.motion, .catalogue, .portA, .portB] s s.crashCheck := by
  unfold crashCheck
  split
  · exact Writes.ite (crashEvent_writes s _) (.refl _ _)
  · exact .refl _ _

theorem sample_writes (s : State) (x : Sample) :
    Writes [.motion, .frames, .catalogue, .portA, .portB] s (s.sample x) := by
  have habsorb : ∀ m : Motion, Writes [.motion, .frames, .catalogue, .portA, .portB] s
      ({ s with motion := m } : State).examine := fun m =>
    Writes.andThen (t := { s with motion := m }) (bs := [.motion]) (by simp [Writes, Block.forall_iff])
      (examine_writes _) (by simp) (by simp)
  unfold sample
  dsimp only
  split
  · exact (habsorb _).andThen (episodeEnd_writes _ _) (by simp) (by simp)
  · exact (habsorb _).andThen (crashCheck_writes _) (by simp) (by simp)

/-! ### The link going down -/

theorem dropAll_writes (q : List Access) (s : State) : Writes [.portA, .portB] s (q.foldl dropAccess s) := by
  induction q generalizing s with
  | nil => exact .refl _ _
  | cons a q ih => exact (complete_writes s _ _ _).trans (ih _)

theorem linkDown_writes (s : State) (x : LinkState) :
    Writes [.link, .channels, .motion, .catalogue, .portA, .portB] s (s.linkDown x) := by
  have hbare : ∀ u : State, Writes [.link, .channels] u
      { u.emptied .drdy with link := { u.link with
        state := x, bus := .free, queue := [], replaced := false, startup := none, recovery := none, stall := none } } := by
    intro u
    simp [Writes, Block.forall_iff, emptied]
  have hdrop := (dropAll_writes s.link.queue s).andThen (ds := [.link, .channels, .portA, .portB]) (hbare _)
    (by simp) (by simp)
  exact Writes.ite (hdrop.andThen (motionStop_writes _) (by simp) (by simp)) (hdrop.mono (by simp))

end State

end Sys2Proof.Machine

/-! # The Motion Sensor Link: settings, start, stop and the link going down -/

namespace Sys2Proof.Machine

/-- R52: the integrator once the link has left RUNNING. -/
def Motion.stopped (m : Motion) : Motion :=
  { m with episode := none, watch := none, stillCount := 0, stillSum := Axes.all 0 }

/-- What a port shows besides its slot and the record of the states the slot has left. -/
def PortState.SameRest (x y : PortState) : Prop :=
  y = { x with slot := y.slot, earlier := y.earlier }

theorem PortState.SameRest.trans {x y z : PortState} (h : x.SameRest y) (g : y.SameRest z) :
    x.SameRest z := by
  unfold PortState.SameRest at *
  cases x
  cases y
  cases z
  simp_all

namespace State

/-! ### Shock events and the stop of the integrator -/

/-- R114: where a shock mark goes depends on the catalogue, the gate and the epoch alone. -/
theorem shockMark_catalogue_congr {s t : State} (hc : t.catalogue = s.catalogue) (hs : t.store = s.store)
    (start : Tick) (peak : Nat) (band : Fin 4) :
    (t.shockMark start peak band).catalogue = (s.shockMark start peak band).catalogue := by
  unfold shockMark gateOpen
  rw [hc, hs]
  split
  · split
    · rfl
    · exact hc
  · exact hc

theorem shockMark_portB (s : State) (start : Tick) (peak : Nat) (band : Fin 4) :
    (s.shockMark start peak band).portB = s.portB :=
  shockMark_writes s start peak band .portB (by decide)

/-- R51: a shock event raises SHOCK on Port B. -/
theorem shockEvent_portB (s : State) (e : Episode) : (s.shockEvent e).portB = { s.portB with
    notices := s.portB.notices ||| 0x0020, attn := attnLevel (s.portB.notices ||| 0x0020) s.portB.mask } := by
  have hraise : (s.shockEvent e).portB = ((s.shockMark e.start e.peak e.band).portB).raise .shock := rfl
  rw [hraise, shockMark_portB]
  rfl

theorem shockEvent_catalogue (s : State) (e : Episode) :
    (s.shockEvent e).catalogue = (s.shockMark e.start e.peak e.band).catalogue := rfl

theorem motionStop_idle {s : State} (h : s.motion.episode = none) :
    s.motionStop = { s with motion := s.motion.stopped } := by
  simp only [motionStop, h]
  rfl

theorem motionStop_active {s : State} {e : Episode} (h : s.motion.episode = some e) :
    s.motionStop = ({ s with motion := s.motion.stopped } : State).shockEvent e := by
  simp only [motionStop, h]
  rfl

theorem motionStop_motion (s : State) : s.motionStop.motion = s.motion.stopped := by
  cases h : s.motion.episode with
  | none => rw [motionStop_idle h]
  | some e =>
    rw [motionStop_active h]
    exact shockEvent_writes { s with motion := s.motion.stopped } e .motion (by decide)

theorem motionStop_catalogue_active {s : State} {e : Episode} (h : s.motion.episode = some e) :
    s.motionStop.catalogue = (s.shockMark e.start e.peak e.band).catalogue := by
  rw [motionStop_active h, shockEvent_catalogue]
  exact shockMark_catalogue_congr (s := s) (t := { s with motion := s.motion.stopped }) rfl rfl ..

theorem motionStop_portB_active {s : State} {e : Episode} (h : s.motion.episode = some e) :
    s.motionStop.portB = { s.portB with
      notices := s.portB.notices ||| 0x0020, attn := attnLevel (s.portB.notices ||| 0x0020) s.portB.mask } := by
  rw [motionStop_active h, shockEvent_portB]

/-- What the stop does to the marks and to Port B it reads from few blocks. -/
theorem motionStop_congr {s t : State} (hm : t.motion = s.motion) (hc : t.catalogue = s.catalogue) (hs : t.store = s.store)
    (hn : t.portB.notices = s.portB.notices) (hmask : t.portB.mask = s.portB.mask) (ha : t.portB.attn = s.portB.attn) :
    t.motionStop.motion = s.motionStop.motion ∧ t.motionStop.catalogue = s.motionStop.catalogue
    ∧ t.motionStop.portB.notices = s.motionStop.portB.notices ∧ t.motionStop.portB.attn = s.motionStop.portB.attn := by
  refine ⟨by rw [motionStop_motion, motionStop_motion, hm], ?_⟩
  cases h : s.motion.episode with
  | none =>
    have ht := hm ▸ h
    rw [motionStop_idle h, motionStop_idle ht]
    exact ⟨hc, hn, ha⟩
  | some e =>
    have ht := hm ▸ h
    rw [motionStop_catalogue_active h, motionStop_catalogue_active ht, motionStop_portB_active h,
      motionStop_portB_active ht]
    exact ⟨shockMark_catalogue_congr hc hs .., by simp only [hn], by simp only [hn, hmask]⟩

theorem motionStop_portA (s : State) : s.motionStop.portA = s.portA :=
  motionStop_writes s .portA (by decide)

/-- The stop raises a notice on Port B and leaves the rest of it. -/
theorem motionStop_portB (s : State) : s.motionStop.portB = { s.portB with
    notices := s.motionStop.portB.notices, attn := s.motionStop.portB.attn } := by
  cases h : s.motion.episode with
  | none => rw [motionStop_idle h]
  | some e => rw [motionStop_portB_active h]

theorem motionStop_slot (s : State) (p : Port) : (s.motionStop.port p).slot = (s.port p).slot := by
  cases p
  · exact congrArg PortState.slot (motionStop_portA s)
  · show s.motionStop.portB.slot = s.portB.slot
    rw [motionStop_portB]

/-! ### Completions of queued requests -/

/-- R191: a completion for another port, or one whose request was abandoned, leaves a port as it was. -/
theorem port_complete_kept {s : State} {t : Ticket} {p : Port} (st : Status) (b : List Byte)
    (h : t.port = p → ∀ c, (s.port p).slot ≠ .working c t.taking) : (s.complete t st b).port p = s.port p := by
  obtain heq | ⟨c, hc, heq⟩ := complete_cases s t st b <;> rw [heq]
  by_cases hp : p = t.port
  · subst hp
    exact absurd hc (h rfl c)
  · exact port_setPort_other _ _ _ _ hp

theorem port_complete_sameRest (s : State) (t : Ticket) (st : Status) (b : List Byte) (p : Port) :
    (s.port p).SameRest ((s.complete t st b).port p) := by
  obtain h | ⟨c, -, h⟩ := complete_cases s t st b <;> rw [h]
  · rfl
  · by_cases hp : p = t.port
    · subst hp
      rw [finish, port_setPort]
      rfl
    · rw [finish, port_setPort_other _ _ _ _ hp]
      rfl

theorem port_dropAll_kept {q : List Access} {s : State} {p : Port}
    (h : ∀ a ∈ q, a.ticket.port = p → ∀ k, (s.port p).slot ≠ .working k a.ticket.taking) :
    (q.foldl dropAccess s).port p = s.port p := by
  induction q generalizing s with
  | nil => rfl
  | cons a q ih =>
    have ha : (s.dropAccess a).port p = s.port p :=
      port_complete_kept _ _ (h a List.mem_cons_self)
    rw [List.foldl_cons, ih, ha]
    intro y hy hp k
    rw [ha]
    exact h y (List.mem_cons_of_mem _ hy) hp k

theorem port_dropAll_sameRest (q : List Access) (s : State) (p : Port) :
    (s.port p).SameRest ((q.foldl dropAccess s).port p) := by
  induction q generalizing s with
  | nil => rfl
  | cons a q ih => exact (port_complete_sameRest s _ _ _ p).trans (ih _)

/-- R36: the first queued access of a request still in flight completes it WRONG_STATE. -/
theorem port_dropAll_answered {before rest : List Access} {a : Access} {k : Byte} {s : State}
    (hbefore : ∀ y ∈ before, y.ticket ≠ a.ticket) (hslot : (s.port a.ticket.port).slot = .working k a.ticket.taking) :
    (((before ++ a :: rest).foldl dropAccess s).port a.ticket.port).slot
      = .answered { status := .wrongState, kind := k, body := [a.addr] } := by
  have hkept : (before.foldl dropAccess s).port a.ticket.port = s.port a.ticket.port := by
    refine port_dropAll_kept fun y hy hp k' hk' => hbefore y hy ?_
    rw [hslot] at hk'
    obtain ⟨-, htaking⟩ := Slot.working.inj hk'
    cases hy' : y.ticket
    cases ha' : a.ticket
    simp_all
  rw [List.foldl_append, List.foldl_cons]
  have hdone : (((before.foldl dropAccess s).dropAccess a).port a.ticket.port).slot
      = .answered { status := .wrongState, kind := k, body := [a.addr] } := by
    rw [dropAccess, complete_own (c := k) _ _ (by rw [hkept, hslot]), finish, port_setPort]
    rfl
  rw [port_dropAll_kept, hdone]
  intro y _ _ k'
  rw [hdone]
  simp

/-! ### The link going down -/

/-- R19, R25, R28: what the link going down does besides the integrator's stop. -/
def linkDropped (s : State) (x : LinkState) : State :=
  { (s.link.queue.foldl dropAccess s).emptied .drdy with link := { (s.link.queue.foldl dropAccess s).link with
    state := x, bus := .free, queue := [], replaced := false, startup := none, recovery := none, stall := none } }

theorem linkDown_running {s : State} (x : LinkState) (h : s.link.state = .running) :
    s.linkDown x = (s.linkDropped x).motionStop := if_pos h

theorem linkDown_not_running {s : State} (x : LinkState) (h : s.link.state ≠ .running) :
    s.linkDown x = s.linkDropped x := if_neg h

theorem linkDropped_link (s : State) (x : LinkState) : (s.linkDropped x).link = { s.link with
    state := x, bus := .free, queue := [], replaced := false, startup := none, recovery := none, stall := none } := by
  have hlink : (s.link.queue.foldl dropAccess s).link = s.link := dropAll_writes s.link.queue s .link (by decide)
  rw [linkDropped, hlink]

theorem linkDropped_channels (s : State) (x : LinkState) :
    (s.linkDropped x).channels = { s.channels with drdy := none } := by
  have hch : (s.link.queue.foldl dropAccess s).channels = s.channels :=
    dropAll_writes s.link.queue s .channels (by decide)
  show (s.link.queue.foldl dropAccess s).channels.put .drdy none = _
  rw [hch]
  rfl

theorem linkDropped_writes (s : State) (x : LinkState) :
    Writes [.link, .channels, .portA, .portB] s (s.linkDropped x) := by
  refine (dropAll_writes s.link.queue s).andThen (cs := [.link, .channels]) ?_ (by simp) (by simp)
  simp [Writes, Block.forall_iff, linkDropped, emptied]

theorem port_linkDropped (s : State) (x : LinkState) (p : Port) :
    (s.linkDropped x).port p = (s.link.queue.foldl dropAccess s).port p := by
  cases p <;> rfl

theorem linkDown_link (s : State) (x : LinkState) : (s.linkDown x).link = { s.link with
    state := x, bus := .free, queue := [], replaced := false, startup := none, recovery := none, stall := none } := by
  by_cases h : s.link.state = .running
  · rw [linkDown_running x h, ← linkDropped_link]
    exact motionStop_writes _ .link (by decide)
  · rw [linkDown_not_running x h, linkDropped_link]

theorem linkDown_channels (s : State) (x : LinkState) : (s.linkDown x).channels = { s.channels with drdy := none } := by
  by_cases h : s.link.state = .running
  · rw [linkDown_running x h, ← linkDropped_channels s x]
    exact motionStop_writes _ .channels (by decide)
  · rw [linkDown_not_running x h, linkDropped_channels]

theorem linkDown_eq (s : State) (x : LinkState) :
    s.linkDown x = { s with link := (s.linkDown x).link, channels := (s.linkDown x).channels
                            motion := (s.linkDown x).motion, catalogue := (s.linkDown x).catalogue
                            portA := (s.linkDown x).portA, portB := (s.linkDown x).portB } := by
  have h := linkDown_writes s x
  rw [Writes, Block.forall_iff] at h
  rw [eq_iff_same, Block.forall_iff]
  simpa using h

theorem linkDown_slot (s : State) (x : LinkState) (p : Port) :
    ((s.linkDown x).port p).slot = ((s.link.queue.foldl dropAccess s).port p).slot := by
  by_cases h : s.link.state = .running
  · rw [linkDown_running x h, motionStop_slot, port_linkDropped]
  · rw [linkDown_not_running x h, port_linkDropped]

/-- R52: out of RUNNING the integrator stops; from another state it is as it was. -/
theorem linkDown_motion (s : State) (x : LinkState) :
    (s.link.state = .running → (s.linkDown x).motion = s.motionStop.motion
      ∧ (s.linkDown x).catalogue = s.motionStop.catalogue
      ∧ (s.linkDown x).portB.notices = s.motionStop.portB.notices
      ∧ (s.linkDown x).portB.attn = s.motionStop.portB.attn)
    ∧ (s.link.state ≠ .running → (s.linkDown x).motion = s.motion ∧ (s.linkDown x).catalogue = s.catalogue
      ∧ (s.linkDown x).portB.notices = s.portB.notices ∧ (s.linkDown x).portB.attn = s.portB.attn) := by
  have hw := linkDropped_writes s x
  have hm : (s.linkDropped x).motion = s.motion := hw .motion (by decide)
  have hc : (s.linkDropped x).catalogue = s.catalogue := hw .catalogue (by decide)
  have hs : (s.linkDropped x).store = s.store := hw .store (by decide)
  have hrest : s.portB.SameRest (s.linkDropped x).portB := port_dropAll_sameRest s.link.queue s .b
  have hn : (s.linkDropped x).portB.notices = s.portB.notices := by rw [hrest]
  have hmask : (s.linkDropped x).portB.mask = s.portB.mask := by rw [hrest]
  have ha : (s.linkDropped x).portB.attn = s.portB.attn := by rw [hrest]
  refine ⟨fun h => ?_, fun h => ?_⟩
  · rw [linkDown_running x h]
    exact motionStop_congr hm hc hs hn hmask ha
  · rw [linkDown_not_running x h]
    exact ⟨hm, hc, hn, ha⟩

theorem linkDown_portA (s : State) (x : LinkState) : s.portA.SameRest (s.linkDown x).portA := by
  have hrest : s.portA.SameRest (s.linkDropped x).portA := port_dropAll_sameRest s.link.queue s .a
  by_cases h : s.link.state = .running
  · rw [linkDown_running x h, motionStop_portA]
    exact hrest
  · rw [linkDown_not_running x h]
    exact hrest

theorem linkDown_portB (s : State) (x : LinkState) : (s.linkDown x).portB = { s.portB with
    slot := (s.linkDown x).portB.slot, earlier := (s.linkDown x).portB.earlier
    notices := (s.linkDown x).portB.notices, attn := (s.linkDown x).portB.attn } := by
  have hrest : s.portB.SameRest (s.linkDropped x).portB := port_dropAll_sameRest s.link.queue s .b
  by_cases h : s.link.state = .running
  · rw [linkDown_running x h, motionStop_portB, hrest]
  · rw [linkDown_not_running x h, hrest]

end State

end Sys2Proof.Machine

/-! # The Motion Sensor Link: requests, configuration, failure and recovery -/

namespace Sys2Proof.Machine

/-! ### Requests -/

theorem imuLinkSet_local : State.Local imuLinkSet := by
  intro p b s x f
  unfold imuLinkSet
  rw [State.take_link]
  split_ifs <;> cases p <;> rfl

theorem imuBankWrite_local : State.Local imuBankWrite := by
  intro p b s x f
  unfold imuBankWrite
  rw [State.take_link]
  split_ifs <;> cases p <;> rfl

theorem imuStatus_local : State.Local imuStatus := by
  intro p b s x f
  cases p <;> rfl

theorem imuStart_local : State.Local imuStart := by
  intro p b s x f
  unfold imuStart
  rw [State.take_link]
  split_ifs <;> cases p <;> rfl

theorem imuBankWrite_refused {p : Port} {b : List Byte} (s : State) (h : 31 < field b 0 1 ∨ 127 < field b 2 1) :
    imuBankWrite p b s = (s, .done .badValue []) := by
  unfold imuBankWrite
  split_ifs
  · rfl
  · omega
  · omega
  · rfl

theorem imuBankWrite_taken {p : Port} {b : List Byte} {i : Fin 32} {e : BankEntry} (s : State)
    (hi : field b 0 1 = i.val) (ha : field b 2 1 ≤ 127)
    (he : e = { valid := flagAt b 1, addr := byteAt b 2, value := byteAt b 3
                verify := flagAt b 4, locked := flagAt b 5 }) :
    imuBankWrite p b s = if s.link.state = .configuring then (s, .done .wrongState [])
      else ({ s with link := { s.link with bank := s.link.bank.set i.val e } }, .done .ok e.enc) := by
  subst he
  unfold imuBankWrite
  simp only [hi]
  rw [dif_pos i.isLt, if_neg (by omega)]

/-- Settles O14. -/
theorem linkSettingRequests : Obligations.LinkSettingRequests := by
  refine ⟨fun p f s hadm => ?_, fun p f s hadm => ⟨fun hbad => ?_, fun i e hi ha he => ?_⟩⟩
  · refine (State.doRequest_concluded imuLinkSet_local hadm).trans ?_
    unfold imuLinkSet
    split_ifs <;> rfl
  · exact State.doRequest_local imuBankWrite_local hadm (imuBankWrite_refused s hbad)
  · refine (State.doRequest_concluded imuBankWrite_local hadm).trans ?_
    rw [imuBankWrite_taken s hi ha he]
    split_ifs <;> rfl

namespace State

theorem linkStop_off {s : State} (h : s.link.state = .off) : s.linkStop = s := if_pos h

theorem linkStop_on {s : State} (h : s.link.state ≠ .off) : s.linkStop = s.linkDown .off := if_neg h

/-- The accumulators, the biases and the history outlive the link. -/
theorem linkDown_keeps_motion (s : State) (x : LinkState) : (s.linkDown x).motion.acc = s.motion.acc
    ∧ (s.linkDown x).motion.bias = s.motion.bias ∧ (s.linkDown x).motion.history = s.motion.history := by
  obtain ⟨hrun, hother⟩ := linkDown_motion s x
  by_cases h : s.link.state = .running
  · rw [(hrun h).1, motionStop_motion]
    exact ⟨rfl, rfl, rfl⟩
  · rw [(hother h).1]
    exact ⟨rfl, rfl, rfl⟩

end State

/-- Settles O16. -/
theorem linkStartAndStop : Obligations.LinkStartAndStop := by
  refine ⟨fun p f s hadm => ?_, fun p f s hadm => ?_, fun p f s hadm => ?_, fun s h => State.linkStop_off h,
    fun s h => ?_⟩
  · refine (State.doRequest_local imuStatus_local hadm rfl).trans ?_
    simp [LinkSettings.enc]
  · refine (State.doRequest_concluded imuStart_local hadm).trans ?_
    unfold imuStart
    split_ifs <;> rfl
  · refine (State.doRequest_admitted imuStop hadm).trans ?_
    rw [← State.flying_eq_take]
    rfl
  · obtain ⟨hacc, hbias, hhist⟩ := State.linkDown_keeps_motion s .off
    rw [State.linkStop_on h]
    refine ⟨rfl, ?_, ?_, ?_, ?_, ?_, ?_, ?_, ?_, ?_, ?_, ?_, hacc, hbias, hhist, State.linkDown_eq s .off⟩
    all_goals simp only [State.linkDown_link, State.linkDown_channels]

/-! ### Configuring -/

namespace State

/-- R27: the replay writes the first valid entry at or above its index. -/
theorem replay_entry {s : State} {n : Nat} {i : Fin 32} (hn : n ≤ i.val) (hi : s.link.bank[i].valid = true)
    (hfirst : ∀ j : Fin 32, n ≤ j.val → j < i → s.link.bank[j].valid = false) :
    s.replay n = { s with link := { s.link with bus := .bankWrite i } } := by
  have hnext : s.link.nextEntry n = some i := by
    refine List.find?_eq_some_iff_getElem.mpr ⟨by simpa [hn] using hi, i.val, by simp, by simp, fun j hj => ?_⟩
    simp only [List.getElem_finRange, Bool.not_eq_true', Bool.and_eq_false_iff, decide_eq_false_iff_not]
    by_cases hjn : n ≤ j
    · exact .inr (hfirst _ hjn hj)
    · exact .inl hjn
  simp only [replay, hnext]
  rfl

theorem replay_done {s : State} {n : Nat} (h : ∀ j : Fin 32, n ≤ j.val → s.link.bank[j].valid = false) :
    s.replay n = s.enterRunning := by
  have hnext : s.link.nextEntry n = none := by
    refine List.find?_eq_none.mpr fun j _ => ?_
    simp only [Bool.not_eq_true, Bool.and_eq_false_iff, decide_eq_false_iff_not]
    by_cases hjn : n ≤ j.val
    · exact .inr (h j hjn)
    · exact .inl hjn
  simp only [replay, hnext]

theorem attemptFails_again {s : State} (h : s.link.attempts < 3) :
    s.attemptFails = { s.linkDown .recovering with link := { (s.linkDown .recovering).link with
      attempts := s.link.attempts + 1, recovery := some (later s.tick 16384) } } := by
  have htick : (s.linkDown .recovering).tick = s.tick := linkDown_writes s .recovering .tick (by decide)
  rw [← htick]
  exact if_pos h

theorem attemptFails_last {s : State} (h : 3 ≤ s.link.attempts) :
    s.attemptFails = (s.linkDown .failed).raise .imuFailed := if_neg (Nat.not_lt.mpr h)

end State

/-- Settles O17: the commands reach the operations named here; each operation has its own lemma. -/
theorem linkConfiguresFailsRecovers : Obligations.LinkConfiguresFailsRecovers := by
  refine ⟨fun s hv hup => ?_, fun v s hv hbus => ?_, fun i s hv hbus => ?_, fun i v s hv hbus => ?_,
    fun n i s hn hi hfirst => State.replay_entry hn hi hfirst, fun n s h => ⟨_, rfl, State.replay_done h⟩,
    fun s hv hstall => ?_, fun s h => State.attemptFails_again h, fun s h => State.attemptFails_last h,
    fun x s => ⟨State.linkDown_link s x, State.linkDown_channels s x, State.linkDown_eq s x⟩,
    fun x s => ?_, fun x a before rest k s hq hbefore hslot => ?_, fun s hv hrec => ?_⟩
  · dsimp only [exec, execStartupExpiry]
    exact State.event_taken _ hv ((State.due_iff ..).mpr hup)
  · dsimp only [exec, execIdentityReadComplete]
    exact State.event_taken _ hv (by simp [hbus])
  · dsimp only [exec, execBankWriteComplete]
    rw [State.whenPowered_on _ hv]
    simp only [State.bankWritten, hbus]
    rfl
  · dsimp only [exec, execVerifyReadComplete]
    rw [State.whenPowered_on _ hv]
    simp only [State.verified, hbus]
  · dsimp only [exec, execStallExpiry]
    exact State.event_taken _ hv ((State.due_iff ..).mpr hstall)
  · obtain ⟨hrun, hother⟩ := State.linkDown_motion s x
    refine ⟨hrun, hother, State.linkDown_portA s x, State.linkDown_portB s x, fun p hp => ?_⟩
    rw [State.linkDown_slot, State.port_dropAll_kept hp]
  · rw [State.linkDown_slot, hq]
    exact State.port_dropAll_answered hbefore hslot
  · dsimp only [exec, execRecoveryExpiry]
    exact State.event_taken _ hv ((State.due_iff ..).mpr hrec)

end Sys2Proof.Machine

/-! # Sampling, the bus and IMU_ACCESS -/

namespace Sys2Proof.Machine

/-! ### The bytes of a burst -/

/-- R21, R207: two bytes in two's complement. -/
theorem fieldInt_two (hi lo : Byte) : fieldInt [hi, lo] 0 2 = if hi.toNat < 128
    then (hi.toNat * 256 + lo.toNat : Int) else (hi.toNat * 256 + lo.toNat : Int) - 65536 := by
  have hfield : field [hi, lo] 0 2 = hi.toNat * 256 + lo.toNat := by simp [field, beNat]
  have hlo := lo.isLt
  unfold fieldInt
  rw [hfield]
  dsimp only
  split_ifs <;> push_cast <;> omega

theorem assemble_eq {v : Byte → Byte → Int} (hv : ∀ hi lo : Byte, v hi lo = if hi.toNat < 128
      then (hi.toNat * 256 + lo.toNat : Int) else (hi.toNat * 256 + lo.toNat : Int) - 65536)
    (b : Vector Byte 12) (t : Tick) (first : Bool) :
    assemble .little b t first = { tick := t, first := first
                                   gyro := { x := v b[1] b[0], y := v b[3] b[2], z := v b[5] b[4] }
                                   accel := { x := v b[7] b[6], y := v b[9] b[8], z := v b[11] b[10] } }
    ∧ assemble .big b t first = { tick := t, first := first
                                  gyro := { x := v b[0] b[1], y := v b[2] b[3], z := v b[4] b[5] }
                                  accel := { x := v b[6] b[7], y := v b[8] b[9], z := v b[10] b[11] } } := by
  have heq : ∀ hi lo : Byte, fieldInt [hi, lo] 0 2 = v hi lo := fun hi lo => (fieldInt_two hi lo).trans (hv hi lo).symm
  simp only [assemble, ByteOrder.value, heq, and_self]

/-! ### The arbiter -/

namespace State

theorem serveBus_held_capture {s : State} {c : Tick} (gap : Bool) (h : s.channels.drdy = some c) :
    s.serveBus gap = { s.emptied .drdy with
      link := { s.link with bus := .sampleBurst c gap, replaced := false } } := by
  simp only [serveBus, h]
  rfl

theorem serveBus_waiting {s : State} {a : Access} {rest : List Access} (gap : Bool) (h : s.channels.drdy = none)
    (hq : s.link.queue = a :: rest) : s.serveBus gap = { s with link := { s.link with bus := .passThrough a } } := by
  have hbus : s.serveBus gap = s.onBus (.passThrough a) := by simp only [serveBus, h, hq]
  exact hbus

theorem serveBus_idle {s : State} (gap : Bool) (h : s.channels.drdy = none) (hq : s.link.queue = []) :
    s.serveBus gap = { s with link := { s.link with bus := .free } } := by
  have hbus : s.serveBus gap = s.onBus .free := by simp only [serveBus, h, hq]
  exact hbus

theorem drdyRunning_free {s : State} (h : s.link.bus = .free) :
    s.drdyRunning = { s.emptied .drdy with link := { s.link with
      stall := some (later s.tick (4 * s.link.settings.pImu)), bus := .sampleBurst s.tick false } } :=
  if_pos h

theorem drdyRunning_busy {s : State} (h : s.link.bus ≠ .free) :
    s.drdyRunning = { s.capture .drdy s.tick with link := { s.link with
      stall := some (later s.tick (4 * s.link.settings.pImu)), replaced := s.channels.drdy.isSome } } :=
  if_neg h

/-- R36: the transfer of a request still in flight answers it. -/
theorem passDone_own {s : State} {a : Access} {k : Byte} (v : Byte) (hbus : s.link.bus = .passThrough a)
    (hslot : (s.port a.ticket.port).slot = .working k a.ticket.taking) :
    s.passDone v = ({ s.finish a.ticket.port
        { status := .ok, kind := k, body := [a.addr, if a.write then a.data else v] } with
      link := { s.link with queue := s.link.queue.filter fun x => x.ticket != a.ticket } } : State).serveBus
        s.link.replaced := by
  simp only [passDone, hbus, complete_own _ _ hslot, finish, setPort_link]

theorem passDone_abandoned {s : State} {a : Access} (v : Byte) (hbus : s.link.bus = .passThrough a)
    (hslot : ∀ k, (s.port a.ticket.port).slot ≠ .working k a.ticket.taking) :
    s.passDone v = ({ s with
      link := { s.link with queue := s.link.queue.filter fun x => x.ticket != a.ticket } } : State).serveBus
        s.link.replaced := by
  simp only [passDone, hbus, complete_abandoned _ _ hslot]

end State

/-- Settles O18. -/
theorem samplingAndBus : Obligations.SamplingAndBus := by
  refine ⟨fun s hv => ⟨fun h => ?_, fun h hbus => ?_, fun h hbus => ?_⟩, fun b c gap s hv hbus => ⟨_, rfl, ?_⟩,
    fun a v k s hv hbus hslot => ?_, fun a v s hv hbus hslot => ?_, fun b t first v hv => assemble_eq hv b t first,
    fun c gap s h => State.serveBus_held_capture gap h, fun a rest gap s h hq => State.serveBus_waiting gap h hq,
    fun gap s h hq => State.serveBus_idle gap h hq⟩
  · dsimp only [exec, execDrdyCapture]
    rw [State.whenPowered_on _ hv, if_neg h, State.emptied_capture]
  · dsimp only [exec, execDrdyCapture]
    rw [State.whenPowered_on _ hv, if_pos h, State.drdyRunning_free hbus]
  · dsimp only [exec, execDrdyCapture]
    rw [State.whenPowered_on _ hv, if_pos h, State.drdyRunning_busy hbus]
  · dsimp only [exec, execSampleBurstComplete]
    rw [State.whenPowered_on _ hv]
    simp only [State.burstDone, hbus]
    rfl
  · dsimp only [exec, execPassThroughComplete]
    rw [State.whenPowered_on _ hv, State.passDone_own v hbus hslot]
  · dsimp only [exec, execPassThroughComplete]
    rw [State.whenPowered_on _ hv, State.passDone_abandoned v hbus hslot]

/-! ### IMU_ACCESS -/

/-- R35: the bank locks an address when a valid and locked entry names it. -/
theorem Link.lockedAddr_iff (l : Link) (a : Byte) : l.lockedAddr a = true ↔
    ∃ i : Fin 32, l.bank[i].valid = true ∧ l.bank[i].locked = true ∧ l.bank[i].addr = a := by
  unfold lockedAddr
  rw [List.any_eq_true]
  constructor
  · rintro ⟨e, he, hmatch⟩
    obtain ⟨i, hi, rfl⟩ := List.mem_iff_getElem.mp he
    have hlt : i < 32 := by simpa using hi
    exact ⟨⟨i, hlt⟩, by simpa [and_assoc] using hmatch⟩
  · rintro ⟨i, hi⟩
    exact ⟨l.bank[i], by simp, by simpa [and_assoc] using hi⟩

theorem State.joinAccess_eq (s : State) (a : Access) : s.joinAccess a = { s with link := { s.link with
    queue := s.link.queue ++ [a], bus := if s.link.bus = .free then .passThrough a else s.link.bus } } := by
  unfold joinAccess
  dsimp only
  split <;> rfl

theorem State.ticket_take (s : State) (p : Port) (c : Byte) (f : Frame) :
    (s.take p c f).ticket p = { port := p, taking := (s.port p).takings + 1 } := by
  cases p <;> rfl

/-- R35: IMU_ACCESS on the state that has taken it. -/
theorem imuAccess_take {p : Port} {b : List Byte} {a : Access} (s : State) (x : Byte) (f : Frame)
    (ha : a = { ticket := { port := p, taking := (s.port p).takings + 1 }, write := flagAt b 0
                addr := byteAt b 1, data := byteAt b 2 }) :
    imuAccess p b (s.take p x f) =
      if 1 < field b 0 1 ∨ 127 < field b 1 1 then (s.take p x f, .done .badValue [])
      else if s.link.state ≠ .running then (s.take p x f, .done .wrongState [])
      else if a.write = true ∧ (∃ i : Fin 32, s.link.bank[i].valid = true ∧ s.link.bank[i].locked = true
          ∧ s.link.bank[i].addr = a.addr) then (s.take p x f, .done .denied [])
      else ({ s.take p x f with link := { s.link with
        queue := s.link.queue ++ [a], bus := if s.link.bus = .free then .passThrough a else s.link.bus } },
          .inFlight) := by
  unfold imuAccess
  simp only [State.ticket_take, State.take_link, ← ha, State.joinAccess_eq, ← Link.lockedAddr_iff]
  subst ha
  simp only [Bool.and_eq_true]

/-- Settles O19. -/
theorem imuAccessIsCheckedAndQueued : Obligations.ImuAccessIsCheckedAndQueued := by
  intro p f a s hadm ha
  refine (State.doRequest_admitted imuAccess hadm).trans ?_
  rw [imuAccess_take s _ f ha]
  by_cases hbad : 1 < field f.body 0 1 ∨ 127 < field f.body 1 1
  · rw [if_pos hbad, if_pos hbad, State.settle_done, State.take_answer]
  by_cases hrun : s.link.state ≠ .running
  · rw [if_neg hbad, if_neg hbad, if_pos hrun, if_pos hrun, State.settle_done, State.take_answer]
  rw [if_neg hbad, if_neg hbad, if_neg hrun, if_neg hrun]
  by_cases hlock : a.write = true ∧ ∃ i : Fin 32, s.link.bank[i].valid = true ∧ s.link.bank[i].locked = true
      ∧ s.link.bank[i].addr = a.addr
  · rw [if_pos hlock, if_pos hlock, State.settle_done, State.take_answer]
  · rw [if_neg hlock, if_neg hlock, State.settle_inFlight, State.flying_eq_take]

end Sys2Proof.Machine

/-! # One sample through the integrator -/

namespace Sys2Proof.Machine

/-! ### Arithmetic of section 3 -/

/-- 00_scope.md: `nearest` is the closest integer, halves away from zero. -/
theorem nearest_closest {n : Int} {d : Nat} (hd : 0 < d) : 2 * (n - nearest n d * d).natAbs ≤ d
    ∧ (2 * (n - nearest n d * d).natAbs = d → n.natAbs ≤ (nearest n d * d).natAbs) := by
  generalize hq : (2 * n.natAbs + d) / (2 * d) = q
  have hlow : q * (2 * d) ≤ 2 * n.natAbs + d := hq ▸ Nat.div_mul_le_self ..
  have hhigh : 2 * n.natAbs + d < (q + 1) * (2 * d) :=
    (Nat.div_lt_iff_lt_mul (by omega)).mp (by omega)
  have hmul : nearest n d * d = if n < 0 then -((q * d : Nat) : Int) else ((q * d : Nat) : Int) := by
    unfold nearest
    rw [hq]
    dsimp only
    split_ifs <;> push_cast <;> ring
  have hlow' : 2 * (q * d) ≤ 2 * n.natAbs + d := by linarith
  have hhigh' : 2 * n.natAbs < 2 * (q * d) + d := by linarith
  rw [hmul]
  generalize q * d = qd at hlow' hhigh'
  split_ifs <;> omega

theorem apply_plus {a : AxisMap} (r : Raw3) (h : a.minus = false) : a.apply r = r.get a.src := by
  simp [AxisMap.apply, h]

theorem apply_minus {a : AxisMap} (r : Raw3) (h : a.minus = true) : a.apply r = min 32767 (-(r.get a.src)) := by
  simp [AxisMap.apply, h]

/-! ### The interval -/

theorem interval_first {m : Motion} (pImu : Nat) (x : Sample) (h : m.prev = none) : m.interval pImu x = (0, true) := by
  simp only [Motion.interval, h]

theorem interval_restart {m : Motion} {pImu : Nat} {x : Sample} {p : Tick} (h : m.prev = some p)
    (hr : x.first = true ∨ 8 * pImu < dist x.tick p) : m.interval pImu x = (0, true) := by
  simp only [Motion.interval, h]
  exact if_pos (by simpa using hr)

theorem interval_next {m : Motion} {pImu : Nat} {x : Sample} {p : Tick} (h : m.prev = some p) (hf : x.first = false)
    (hd : dist x.tick p ≤ 8 * pImu) : m.interval pImu x = (dist x.tick p, false) := by
  simp only [Motion.interval, h]
  exact if_neg (by simp [hf, hd])

/-- R42: the interval and the RESTART indication as one expression each. -/
theorem interval_eq {m : Motion} {pImu : Nat} {x : Sample} {restart : Bool} {dt : Nat}
    (hr : restart = match m.prev with
      | none => true
      | some p => x.first || decide (8 * pImu < dist x.tick p))
    (hdt : dt = if restart then 0 else (m.prev.map (dist x.tick)).getD 0) : m.interval pImu x = (dt, restart) := by
  unfold Motion.interval
  cases hp : m.prev with
  | none => simp_all
  | some p =>
    rw [hp] at hr hdt
    dsimp only at hr ⊢
    rw [← hr]
    cases restart <;> simp_all

/-! ### The stages of a sample -/

namespace Motion

/-- R43, R44, R46: the accumulators and the history after a sample. -/
theorem absorb_body (m : Motion) (x : Sample) (pImu : Nat) (band : Fin 4) (c : Axes Int)
    (hc : c = Axes.map2 (integrate m.settings.leak[band] (m.interval pImu x).1) m.acc
      (Axes.map2 corrected (m.rates x) m.bias)) :
    (m.absorb x pImu band).1.acc = Axes.map2 saturate m.limit c
    ∧ (m.absorb x pImu band).1.prev = some x.tick
    ∧ (m.absorb x pImu band).1.history = appendEntry m.history { tick := x.tick, acc := Axes.map2 saturate m.limit c
                                                                 restart := (m.interval pImu x).2
                                                                 pinned := Axes.map2 pins m.limit c } := by
  subst hc
  simp only [absorb_eq, integrateSample, judged_settings, judged_acc, judged_limit, judged_history]
  simp [judged, started]

end Motion

namespace State

theorem examine_motion (s : State) : s.examine.motion = s.motion := examine_writes s .motion (by decide)

theorem episodeEnd_motion (s : State) (e : Episode) : (s.episodeEnd e).motion = { s.motion with
    watch := if s.motion.settings.crash ≤ e.peak then some {
      start := e.start, peak := e.peak, run := 0, committed := false, timer := some (later s.tick (2 ^ 22)) }
      else s.motion.watch } := by
  have hm : (s.shockEvent e).motion = s.motion := shockEvent_writes s e .motion (by decide)
  have ht : (s.shockEvent e).tick = s.tick := shockEvent_writes s e .tick (by decide)
  unfold episodeEnd
  dsimp only
  rw [hm]
  split
  · rw [beginWatch, hm, ht]
  · exact hm

theorem crashEvent_motion (s : State) (w : Watch) : (s.crashEvent w).motion = { s.motion with watch := none } := by
  rw [crashEvent_eq, raise_motion]
  rw [show _ = _ from crashMark_writes (s.watchEnded.crashProtect w.start).1 (s.watchEnded.crashProtect w.start).2
    w.start w.peak .motion (by decide)]
  obtain ⟨c, hc⟩ := crashProtect_eq s.watchEnded w.start
  rw [hc]
  rfl

/-- R55: the crash check can end the watch and changes nothing else of the integrator. -/
theorem crashCheck_motion (s : State) : ∃ watch, s.crashCheck.motion = { s.motion with watch := watch } := by
  unfold crashCheck
  split
  · split
    · exact ⟨none, crashEvent_motion s _⟩
    · exact ⟨s.motion.watch, rfl⟩
  · exact ⟨s.motion.watch, rfl⟩

theorem sample_ended {s : State} {x : Sample} {m : Motion} {e : Episode}
    (h : (m, some e) = s.motion.absorb x s.link.settings.pImu s.wheel.band) :
    s.sample x = (({ s with motion := m } : State).examine).episodeEnd e := by
  unfold sample
  rw [← h]

theorem sample_continues {s : State} {x : Sample} {m : Motion}
    (h : (m, none) = s.motion.absorb x s.link.settings.pImu s.wheel.band) :
    s.sample x = (({ s with motion := m } : State).examine).crashCheck := by
  unfold sample
  rw [← h]

/-- R39: after the stages of `absorb` a sample can only change the watch. -/
theorem sample_motion (s : State) (x : Sample) : ∃ watch, (s.sample x).motion =
    { (s.motion.absorb x s.link.settings.pImu s.wheel.band).1 with watch := watch } := by
  rcases habs : s.motion.absorb x s.link.settings.pImu s.wheel.band with ⟨m, ended⟩
  cases ended with
  | some e =>
    rw [sample_ended habs.symm, episodeEnd_motion, examine_motion]
    exact ⟨_, rfl⟩
  | none =>
    obtain ⟨watch, hw⟩ := crashCheck_motion ({ s with motion := m } : State).examine
    rw [sample_continues habs.symm, hw, examine_motion]
    exact ⟨watch, rfl⟩

theorem sample_whole (s : State) (x : Sample) :
    s.sample x = { s with motion := (s.sample x).motion, frames := (s.sample x).frames
                          catalogue := (s.sample x).catalogue, portA := (s.sample x).portA
                          portB := (s.sample x).portB } := by
  have h := sample_writes s x
  rw [Writes, Block.forall_iff] at h
  rw [eq_iff_same, Block.forall_iff]
  simpa using h

end State

/-- Settles O20: `sample_motion` reduces the integrator to the stages of `absorb`, `absorb_body` computes these. -/
theorem sampleIntegrates : Obligations.SampleIntegrates := by
  refine ⟨fun x s u w c dt restart sat hsat hr hdt hu hw hc => ?_, fun s t x m ended h ht => ?_, fun m pImu x =>
    ⟨interval_first pImu x, fun p hp h => interval_restart hp h, fun p hp hf hd => interval_next hp hf hd⟩,
    fun gain g => rfl, fun a r => ⟨fun h => apply_plus r h, fun h hmin => ?_, fun h hgt => ?_⟩,
    fun n d hd => nearest_closest hd⟩
  · have hint := interval_eq hr hdt
    have hurates : u = s.motion.rates x := by rw [hu, hsat]; rfl
    have hwrates : w = Axes.map2 corrected (s.motion.rates x) s.motion.bias := by rw [hw, ← hurates, hsat]; rfl
    have hcbody : c = Axes.map2 (integrate s.motion.settings.leak[s.wheel.band]
        (s.motion.interval s.link.settings.pImu x).1) s.motion.acc
        (Axes.map2 corrected (s.motion.rates x) s.motion.bias) := by
      rw [hc _ rfl, hint, ← hwrates, hsat]
      simp [Axes.map2, integrate, saturate, accBound, truncDiv]
    obtain ⟨hacc, hprev, hhist⟩ := s.motion.absorb_body x s.link.settings.pImu s.wheel.band c hcbody
    obtain ⟨watch, hm⟩ := State.sample_motion s x
    refine ⟨?_, State.sample_whole s x, ?_, ?_, ?_, ?_⟩
    · rw [hm, hsat]
      exact hacc
    · rw [hm]
      exact hprev
    · rw [hm]
      exact Motion.absorb_limit ..
    · rw [hm]
      exact Motion.absorb_settings ..
    · rw [hm, hacc]
      refine hhist.trans ?_
      rw [hint]
      rfl
  · subst ht
    cases ended with
    | some e => exact State.sample_ended h
    | none => exact State.sample_continues h
  · rw [apply_minus r h, hmin]
    rfl
  · rw [apply_minus r h]
    omega

/-! ### The still window -/

theorem isStill_iff (threshold : Nat) (u : Axes Int) : isStill threshold u = true ↔
    u.yaw.natAbs ≤ threshold ∧ u.pitch.natAbs ≤ threshold ∧ u.roll.natAbs ≤ threshold := by
  simp [isStill, and_assoc]

namespace Motion

theorem absorb_still (m : Motion) (x : Sample) (pImu : Nat) (band : Fin 4) :
    (m.absorb x pImu band).1.stillCount
      = ((m.started (m.interval pImu x).2 x.tick).stillWindow (m.still x) (m.rates x)).stillCount
    ∧ (m.absorb x pImu band).1.stillSum
      = ((m.started (m.interval pImu x).2 x.tick).stillWindow (m.still x) (m.rates x)).stillSum
    ∧ (m.absorb x pImu band).1.bias
      = ((m.started (m.interval pImu x).2 x.tick).stillWindow (m.still x) (m.rates x)).bias := by
  simp only [absorb_eq, integrateSample_stillCount, integrateSample_stillSum, integrateSample_bias, judged,
    shockEval_stillCount, shockEval_stillSum, shockEval_bias, and_self]

theorem started_window (m : Motion) (restart : Bool) (tick : Tick) :
    (m.started restart tick).stillCount = (if restart then 0 else m.stillCount)
    ∧ (m.started restart tick).stillSum = if restart then Axes.all 0 else m.stillSum := by
  cases restart <;> exact ⟨rfl, rfl⟩

theorem stillWindow_broken (m : Motion) (u : Axes Int) : m.stillWindow false u = m.emptyStill := rfl

theorem stillWindow_joins {m : Motion} (u : Axes Int) (h : m.stillCount + 1 ≠ 4096) : m.stillWindow true u =
    { m with stillCount := m.stillCount + 1, stillSum := Axes.map2 (· + ·) m.stillSum u } := if_neg h

theorem stillWindow_full {m : Motion} (u : Axes Int) (h : m.stillCount + 1 = 4096) : m.stillWindow true u =
    ({ m with bias := (Axes.map2 (· + ·) m.stillSum u).map windowBias } : Motion).emptyStill := if_pos h

end Motion

/-- Settles O21. -/
theorem stillWindowLearnsTheBias : Obligations.StillWindowLearnsTheBias := by
  intro m x pImu band u sum count restart hr hu hcount hsum
  have hrates : u = m.rates x := hu
  obtain ⟨hc, hs, hb⟩ := m.absorb_still x pImu band
  obtain ⟨hc0, hs0⟩ := m.started_window restart x.tick
  rw [← hr, ← hrates] at hc hs hb
  rw [hc, hs, hb]
  rw [← hcount] at hc0
  rw [← hsum] at hs0
  have hstill : m.still x = isStill m.settings.still u := by rw [Motion.still, hrates]
  refine ⟨fun hmoves => ?_, fun hy hp hro => ⟨fun hne => ?_, fun hfull => ?_⟩⟩
  · have hno : m.still x = false := by
      rw [hstill, ← Bool.not_eq_true, isStill_iff]
      omega
    rw [hno, Motion.stillWindow_broken]
    exact ⟨rfl, rfl, Motion.started_bias m restart x.tick⟩
  · have hyes : m.still x = true := by rw [hstill, isStill_iff]; exact ⟨hy, hp, hro⟩
    rw [hyes, Motion.stillWindow_joins u (by rwa [hc0])]
    dsimp only
    rw [hc0, hs0]
    exact ⟨rfl, rfl, Motion.started_bias m restart x.tick⟩
  · have hyes : m.still x = true := by rw [hstill, isStill_iff]; exact ⟨hy, hp, hro⟩
    rw [hyes, Motion.stillWindow_full u (by rwa [hc0]), hs0]
    exact ⟨rfl, rfl, rfl⟩

end Sys2Proof.Machine

/-! # Shock episodes, the crash watch and the requests of chapter 3 -/

namespace Sys2Proof.Machine

namespace Motion

/-! ### The shock evaluation -/

theorem shockEval_quiet {m : Motion} {k : Nat} (tick : Tick) (band : Fin 4) (h : m.episode = none)
    (hk : k < m.settings.shock) : m.shockEval tick k band = (m, none) := by
  simp only [shockEval, h]
  exact if_neg (Nat.not_le.mpr hk)

theorem shockEval_begins {m : Motion} {k : Nat} (tick : Tick) (band : Fin 4) (h : m.episode = none)
    (hk : m.settings.shock ≤ k) : m.shockEval tick k band =
      ({ m with episode := some { start := tick, peak := k, band := band, quiet := 0 }, watch := none }, none) := by
  simp only [shockEval, h]
  exact if_pos hk

theorem shockEval_again {m : Motion} {k : Nat} {e : Episode} (tick : Tick) (band : Fin 4) (h : m.episode = some e)
    (hk : m.settings.shock ≤ k) : m.shockEval tick k band =
      ({ m with episode := some { e with peak := max e.peak k, quiet := 0 } }, none) := by
  simp only [shockEval, h, if_pos hk]
  exact if_neg (by decide)

theorem shockEval_counts {m : Motion} {k : Nat} {e : Episode} (tick : Tick) (band : Fin 4) (h : m.episode = some e)
    (hk : k < m.settings.shock) (hq : e.quiet + 1 ≠ 64) : m.shockEval tick k band =
      ({ m with episode := some { e with peak := max e.peak k, quiet := e.quiet + 1 } }, none) := by
  simp only [shockEval, h, if_neg (Nat.not_le.mpr hk)]
  exact if_neg hq

theorem shockEval_ends {m : Motion} {k : Nat} {e : Episode} (tick : Tick) (band : Fin 4) (h : m.episode = some e)
    (hk : k < m.settings.shock) (hq : e.quiet + 1 = 64) : m.shockEval tick k band =
      ({ m with episode := none }, some { e with peak := max e.peak k, quiet := 64 }) := by
  simp only [shockEval, h, if_neg (Nat.not_le.mpr hk), hq]
  exact if_pos trivial

/-- The shock evaluation ends a watch or leaves it. -/
theorem shockEval_watch {m : Motion} (tick : Tick) (k : Nat) (band : Fin 4) (h : m.watch = none) :
    (m.shockEval tick k band).1.watch = none := by
  unfold shockEval
  split
  · split
    · rfl
    · exact h
  · dsimp only
    split_ifs <;> exact h

/-! ### The episode and the watch after a sample -/

/-- The integrator at the shock evaluation of a sample. -/
def windowed (m : Motion) (x : Sample) (pImu : Nat) : Motion :=
  (m.started (m.interval pImu x).2 x.tick).stillWindow (m.still x) (m.rates x)

theorem windowed_settings (m : Motion) (x : Sample) (pImu : Nat) : (m.windowed x pImu).settings = m.settings := by
  simp [windowed]

theorem windowed_episode (m : Motion) (x : Sample) (pImu : Nat) : (m.windowed x pImu).episode = m.episode := by
  simp [windowed]

/-- R42: a RESTART sample sets the run of a watch to 0. -/
theorem windowed_watch (m : Motion) (x : Sample) (pImu : Nat) : (m.windowed x pImu).watch
    = m.watch.map fun w => { w with run := if (m.interval pImu x).2 then 0 else w.run } := by
  rw [windowed, stillWindow_watch]
  cases (m.interval pImu x).2 <;> cases hw : m.watch <;> simp [started, restarted, emptyStill, hw]

theorem absorb_shock (m : Motion) (x : Sample) (pImu : Nat) (band : Fin 4) :
    (m.absorb x pImu band).1.episode = ((m.windowed x pImu).shockEval x.tick (m.strength x) band).1.episode
    ∧ (m.absorb x pImu band).1.watch
      = ((m.windowed x pImu).shockEval x.tick (m.strength x) band).1.watch.bind (Watch.step (m.still x))
    ∧ (m.absorb x pImu band).2 = ((m.windowed x pImu).shockEval x.tick (m.strength x) band).2 := by
  rw [absorb_eq]
  exact ⟨rfl, rfl, rfl⟩

/-- R53: what becomes of a watch at a sample that begins no episode. -/
theorem absorb_watch {m : Motion} {x : Sample} {w : Watch} (pImu : Nat) (band : Fin 4) (hw : m.watch = some w)
    (he : m.episode = none) (hk : m.strength x < m.settings.shock) : (m.absorb x pImu band).1.watch
      = Watch.step (m.still x) { w with run := if (m.interval pImu x).2 then 0 else w.run } := by
  rw [(m.absorb_shock x pImu band).2.1, shockEval_quiet _ _ (by rwa [windowed_episode]) (by rwa [windowed_settings])]
  rw [windowed_watch, hw]
  rfl

end Motion

/-- R50: the magnitude, −32768 counting as 32767. -/
theorem magnitude_eq {a : Axes Int} {one : Int → Nat} (hone : one = fun v => if v = -32768 then 32767 else v.natAbs)
    (h : ∀ v ∈ a.toList, -32768 ≤ v ∧ v ≤ 32767) :
    magnitude a = max (one a.yaw) (max (one a.pitch) (one a.roll)) := by
  have key : ∀ v ∈ a.toList, min 32767 v.natAbs = one v := by
    intro v hv
    obtain ⟨hlo, hhi⟩ := h v hv
    rw [hone]
    dsimp only
    split_ifs <;> omega
  rw [magnitude, key a.yaw (by simp [Axes.toList]), key a.pitch (by simp [Axes.toList]),
    key a.roll (by simp [Axes.toList])]

namespace State

theorem episodeEnd_portB (s : State) (e : Episode) : (s.episodeEnd e).portB = { s.portB with
    notices := s.portB.notices ||| 0x0020, attn := attnLevel (s.portB.notices ||| 0x0020) s.portB.mask } := by
  rw [← shockEvent_portB s e]
  unfold episodeEnd
  dsimp only
  split <;> rfl

theorem episodeEnd_catalogue (s : State) (e : Episode) :
    (s.episodeEnd e).catalogue = (s.shockMark e.start e.peak e.band).catalogue := by
  rw [← shockEvent_catalogue s e]
  unfold episodeEnd
  dsimp only
  split <;> rfl

theorem episodeEnd_whole (s : State) (e : Episode) : s.episodeEnd e =
    { s with motion := (s.episodeEnd e).motion, catalogue := (s.episodeEnd e).catalogue
             portB := (s.episodeEnd e).portB } := by
  have h := episodeEnd_writes s e
  rw [Writes, Block.forall_iff] at h
  rw [eq_iff_same, Block.forall_iff]
  simpa using h

theorem motionStop_whole (s : State) : s.motionStop =
    { s with motion := s.motionStop.motion, catalogue := s.motionStop.catalogue, portB := s.motionStop.portB } := by
  have h := motionStop_writes s
  rw [Writes, Block.forall_iff] at h
  rw [eq_iff_same, Block.forall_iff]
  simpa using h

end State

/-- Settles O22: `absorb_shock` leaves the shock evaluation of the windowed integrator, one lemma a case. -/
theorem shockEpisodesAndCrashWatch : Obligations.ShockEpisodesAndCrashWatch := by
  refine ⟨fun m q x pImu k band ended restart still hq hr hk hs => ?_, isStill_iff,
    fun a one hone h => magnitude_eq hone h, fun e w s hw => ?_, fun s => ?_, fun w s hv hw ht => ?_⟩
  · have hstrength : m.strength x = k := hk.symm
    have hstill : m.still x = still := hs.symm
    have hset := m.windowed_settings x pImu
    have hepi := m.windowed_episode x pImu
    have hq₁ : q = (m.absorb x pImu band).1 := congrArg Prod.fst hq
    have hq₂ : ended = (m.absorb x pImu band).2 := congrArg Prod.snd hq
    subst hq₁ hq₂
    obtain ⟨he, hw, hend⟩ := m.absorb_shock x pImu band
    rw [hstrength] at he hw hend
    refine ⟨fun hnone hlt => ?_, fun hnone hle => ?_, fun e hsome => ⟨fun hle => ?_, fun hlt hne => ?_, fun hlt h64 => ?_⟩,
      fun hno => ?_, fun w hwm hnone hlt => ?_⟩
    · rw [he, hend, Motion.shockEval_quiet _ _ (hepi.trans hnone) (by rwa [hset])]
      exact ⟨hepi.trans hnone, rfl⟩
    · rw [he, hw, hend, Motion.shockEval_begins _ _ (hepi.trans hnone) (by rwa [hset])]
      exact ⟨rfl, rfl, rfl⟩
    · rw [he, hend, Motion.shockEval_again _ _ (hepi.trans hsome) (by rwa [hset])]
      exact ⟨rfl, rfl⟩
    · rw [he, hend, Motion.shockEval_counts _ _ (hepi.trans hsome) (by rwa [hset]) hne]
      exact ⟨rfl, rfl⟩
    · rw [he, hend, Motion.shockEval_ends _ _ (hepi.trans hsome) (by rwa [hset]) h64]
      exact ⟨rfl, rfl⟩
    · rw [hw, Motion.shockEval_watch _ _ _ (by rw [Motion.windowed_watch, hno]; rfl)]
      rfl
    · rw [Motion.absorb_watch pImu band hwm hnone (by rwa [hstrength]), hstill, ← hr]
      refine ⟨?_, ?_, ?_⟩
      · rintro rfl
        rfl
      · rintro rfl hc
        simp [Watch.step, hc]
      · rintro rfl hc
        simp [Watch.step, hc]
  · subst hw
    exact ⟨State.episodeEnd_motion s e, State.episodeEnd_portB s e, State.episodeEnd_catalogue s e,
      State.episodeEnd_whole s e⟩
  · refine ⟨State.motionStop_motion s, State.motionStop_whole s, fun h => ?_,
      fun e h => ⟨State.motionStop_portB_active h, State.motionStop_catalogue_active h⟩⟩
    rw [State.motionStop_idle h]
    exact ⟨rfl, rfl⟩
  · dsimp only [exec, execWatchTimerExpiry]
    rw [State.event_taken _ hv (by simp [State.due, hw, ht]), hw]
    rfl

/-! ### Requests -/

theorem biasSet_local : State.Local biasSet := by
  intro p b s x f
  cases p <;> rfl

theorem motionSet_local : State.Local motionSet := by
  intro p b s x f
  unfold motionSet
  split <;> cases p <;> rfl

theorem motionRead_local : State.Local motionRead := by
  intro p b s x f
  cases p <;> rfl

theorem lensSet_local : State.Local lensSet := by
  intro p b s x f
  cases p <;> rfl

/-- R40, R207: an axis-map entry is read back from its code. -/
theorem AxisMap.read_code (m : AxisMap) : AxisMap.read m.code = some m := by
  obtain ⟨src, minus⟩ := m
  cases src <;> cases minus <;> decide

/-- The low seven bits and the top bit spell a byte. -/
theorem low_or_top (b : Byte) : (b &&& 0x7F) ||| (if b.msb then 0x80 else 0) = b := by
  revert b
  decide

theorem AxisMap.code_of_read {b : Byte} {m : AxisMap} (h : AxisMap.read b = some m) : m.code = b := by
  unfold AxisMap.read at h
  rw [← low_or_top b]
  split_ifs at h with hx hy hz
  all_goals cases h
  · rw [hx]; rfl
  · rw [hy]; rfl
  · rw [hz]; rfl

/-- R40: the map of MOTION_SET is read when its three codes name distinct source axes. -/
theorem readMap_of_codes {b : List Byte} {x : Axes AxisMap} (hy : x.yaw.code = byteAt b 2) (hp : x.pitch.code = byteAt b 3)
    (hr : x.roll.code = byteAt b 4) (hyp : x.yaw.src ≠ x.pitch.src) (hyr : x.yaw.src ≠ x.roll.src)
    (hpr : x.pitch.src ≠ x.roll.src) : readMap b = some x := by
  unfold readMap
  rw [← hy, ← hp, ← hr, AxisMap.read_code, AxisMap.read_code, AxisMap.read_code]
  exact if_pos ⟨hyp, hyr, hpr⟩

theorem readMap_none {b : List Byte} (h : ¬ ∃ y q r : AxisMap, y.code = byteAt b 2 ∧ q.code = byteAt b 3
    ∧ r.code = byteAt b 4 ∧ y.src ≠ q.src ∧ y.src ≠ r.src ∧ q.src ≠ r.src) : readMap b = none := by
  unfold readMap
  split
  case h_1 y q r hy hq hr =>
    refine if_neg fun hdist => h ⟨y, q, r, ?_, ?_, ?_, hdist⟩
    · exact AxisMap.code_of_read hy
    · exact AxisMap.code_of_read hq
    · exact AxisMap.code_of_read hr
  case h_2 => rfl

theorem clamp_zero (hi x : Nat) : clamp 0 hi x = min hi x := Nat.zero_max _

/-- R57: the settings whose fields are those the body carries. -/
theorem readMotion_eq {b : List Byte} {x : MotionSettings} (hgain : x.gain = clamp 1 4095 (field b 0 2))
    (hleak : x.leak = #v[clamp 4 16 (field b 5 1), clamp 4 16 (field b 6 1), clamp 4 16 (field b 7 1),
      clamp 4 16 (field b 8 1)]) (hstill : x.still = min 255 (field b 9 2))
    (hshock : x.shock = clamp 1 32767 (field b 11 2))
    (hcrash : x.crash = max x.shock (clamp 1 32767 (field b 13 2))) : readMotion x.map b = x := by
  obtain ⟨gain, map, leak, still, shock, crash⟩ := x
  dsimp only at hgain hleak hstill hshock hcrash ⊢
  subst hgain hleak hstill hcrash hshock
  rw [readMotion, clamp_zero]

/-- Settles O23. -/
theorem motionRequests : Obligations.MotionRequests := by
  refine ⟨fun p f v s hadm hv => ?_, fun p f s hadm => ⟨fun hbad => ?_,
    fun x hy hp hr hyp hyr hpr hgain hleak hstill hshock hcrash => ?_⟩, fun p f s hadm => ?_, fun p f l s hadm hl => ?_⟩
  · subst hv
    exact State.doRequest_local biasSet_local hadm rfl
  · refine State.doRequest_local motionSet_local hadm ?_
    rw [motionSet, readMap_none hbad]
  · refine State.doRequest_local motionSet_local hadm ?_
    rw [motionSet, readMap_of_codes hy hp hr hyp hyr hpr]
    dsimp only
    rw [readMotion_eq hgain hleak hstill hshock hcrash]
    rfl
  · refine (State.doRequest_local motionRead_local hadm rfl).trans ?_
    cases he : s.motion.episode <;> cases hw : s.motion.watch <;>
      simp [Axes.toList, Motion.episodeCode, Motion.peak, he, hw, beBytes]
  · refine ⟨{ s with frames := { s.frames with lens := l }, motion := s.motion.repin l }, ?_, rfl, rfl, rfl, rfl⟩
    refine State.doRequest_local lensSet_local hadm ?_
    rw [lensSet, clamp_zero, clamp_zero, clamp_zero, ← hl]

end Sys2Proof.Machine

/-! # Frames: requests, triggers, strobes and bands -/

namespace Sys2Proof.Machine

/-! ### FRAME_START, FRAME_STOP, CORR_READ and FRAME_STATUS -/

theorem State.take_raise (s : State) (p : Port) (c : Byte) (f : Frame) (n : Notice) :
    (s.take p c f).raise n = (s.raise n).take p c f := by
  cases n <;> cases p <;> rfl

theorem State.closeWindow_none {s : State} (h : s.frames.cur = none) : s.closeWindow = s := by
  simp only [closeWindow, h]

theorem State.closeWindow_some {s : State} {c : CurFrame} (h : s.frames.cur = some c) :
    s.closeWindow = if c.window.isSome then
        (if c.sn.isNone then
          ({ s with frames := { s.frames with cur := some { c with window := none } } } : State).raise .frameMissed
        else { s with frames := { s.frames with cur := some { c with window := none } } })
      else s := by
  simp only [closeWindow, h]

theorem State.take_closeWindow (s : State) (p : Port) (c : Byte) (f : Frame) :
    (s.take p c f).closeWindow = s.closeWindow.take p c f := by
  cases hc : s.frames.cur with
  | none => rw [closeWindow_none hc, closeWindow_none (by rwa [take_frames])]
  | some x =>
    rw [closeWindow_some hc, closeWindow_some (c := x) (by rwa [take_frames])]
    split_ifs
    · rw [← take_raise]
      cases p <;> rfl
    · cases p <;> rfl
    · rfl

theorem frameStart_local : State.Local frameStart := by
  intro p b s x f
  unfold frameStart
  rw [State.take_frames]
  split_ifs
  · rfl
  · rfl
  · refine Prod.ext ?_ rfl
    dsimp only
    unfold State.frameStart State.frameTrigger
    rw [State.take_frames, State.take_tick]
    have hcommute := State.take_closeWindow ({ s with
      frames := { s.frames with params := readFrameParams b, rEst := (readFrameParams b).rCfg, n := 0, opened := false
                                state := .armed }
      ftrig := Generator.begin s.tick (readFrameParams b).period (readFrameParams b).width }) p x f
    cases p <;> exact congrArg (fun u : State => { u with frames := { u.frames with
      n := if u.frames.opened then u.frames.n + 1 else u.frames.n
      opened := true
      cur := some { trigger := u.tick, window := some (later u.tick u.frames.params.window), sn := none
                    fenTaken := false } } }) hcommute

theorem frameStop_local : State.Local frameStop := by
  intro p b s x f
  unfold frameStop State.frameStop
  rw [State.take_frames]
  split_ifs <;> cases p <;> rfl

theorem corrRead_local : State.Local corrRead := by
  intro p b s x f
  cases p <;> rfl

theorem frameStatus_local : State.Local frameStatus := by
  intro p b s x f
  cases p <;> rfl

/-- R61: the ranges of the period and of the band count. -/
theorem frameParamsOk_iff (b : List Byte) : frameParamsOk b = true ↔
    4096 ≤ field b 0 4 ∧ field b 0 4 ≤ 1048576 ∧ field b 8 1 ∈ [1, 2, 4, 8, 16] := by
  simp only [frameParamsOk, Bool.and_eq_true, decide_eq_true_eq, List.contains_iff_mem, and_assoc]

theorem frameStart_badValue {p : Port} {b : List Byte} (s : State) (h : ¬ frameParamsOk b = true) :
    frameStart p b s = (s, .done .badValue []) := if_pos (by simpa using h)

theorem frameStart_wrongState {p : Port} {b : List Byte} {s : State} (h : frameParamsOk b = true)
    (hst : s.frames.state ≠ .idle) : frameStart p b s = (s, .done .wrongState []) :=
  (if_neg (by simpa using h)).trans (if_pos hst)

theorem frameStart_taken {p : Port} {b : List Byte} {s : State} (h : frameParamsOk b = true)
    (hst : s.frames.state = .idle) :
    frameStart p b s = (s.frameStart (readFrameParams b), .done .ok (readFrameParams b).enc) :=
  (if_neg (by simpa using h)).trans (if_neg (by simpa using hst))

/-- R61, R63: an accepted FRAME_START with no current frame opens frame 0. -/
theorem State.frameStart_eq {s : State} (x : FrameParams) (hcur : s.frames.cur = none) :
    s.frameStart x = { s with
      ftrig := Generator.begin s.tick x.period x.width
      frames := { s.frames with
        params := x, rEst := x.rCfg, n := 0, opened := true, state := .armed
        cur := some { trigger := s.tick, window := some (later s.tick x.window), sn := none, fenTaken := false } } } := by
  unfold frameStart frameTrigger
  rw [closeWindow_none (by exact hcur)]
  rfl

theorem begin_high (now : Tick) (period : Nat) {w : Nat} (h : w ≠ 0) : Generator.begin now period w =
    { running := true, period := period, width := w, start := now, staged := none, output := .high } := by
  simp [Generator.begin, pulseLevel, h]

/-- Settles O24. -/
theorem frameRequests : Obligations.FrameRequests := by
  refine ⟨fun p f s hadm => ⟨fun hbad => ?_, fun hlo hhi hbands => ⟨fun hst => ?_, fun x g hst hcur hx hg => ?_⟩⟩,
    fun p f s hadm => ⟨fun hidle => ?_, fun hrun hgen => ?_⟩, fun p f s hadm => ?_, fun p f s hadm => ?_⟩
  · refine State.doRequest_local frameStart_local hadm (frameStart_badValue s ?_)
    rw [frameParamsOk_iff]
    rintro ⟨h1, h2, h3⟩
    rcases hbad with hb | hb | hb
    · omega
    · omega
    · exact hb h3
  · exact State.doRequest_local frameStart_local hadm
      (frameStart_wrongState ((frameParamsOk_iff _).mpr ⟨hlo, hhi, hbands⟩) hst)
  · refine State.doRequest_local frameStart_local hadm ?_
    have hread : readFrameParams f.body = x := hx.symm
    have hwidth : x.width ≠ 0 := by
      rw [hx]
      simp only [clamp]
      omega
    rw [frameStart_taken ((frameParamsOk_iff _).mpr ⟨hlo, hhi, hbands⟩) hst, hread, State.frameStart_eq x hcur,
      begin_high _ _ hwidth, hg]
  · refine State.doRequest_local frameStop_local hadm ?_
    rw [frameStop, State.frameStop, if_pos hidle]
  · refine State.doRequest_local frameStop_local hadm ?_
    rw [frameStop, State.frameStop, if_neg hrun, Generator.stop, if_pos hgen]
  · refine State.doRequest_local corrRead_local hadm ?_
    rw [corrRead, List.length_take]
  · exact State.doRequest_local frameStatus_local hadm rfl

/-! ### Triggers and strobes -/

namespace State

/-- R64: an open window closes, and without S_n the frame is missed. -/
theorem closeWindow_open {s : State} {c : CurFrame} (h : s.frames.cur = some c) (hw : c.window.isSome) :
    s.closeWindow = if c.sn = none then
        ({ s with frames := { s.frames with cur := some { c with window := none } } } : State).raise .frameMissed
      else { s with frames := { s.frames with cur := some { c with window := none } } } := by
  rw [closeWindow_some h, if_pos hw]
  simp only [Option.isNone_iff_eq_none]

theorem closeWindow_closed {s : State} {c : CurFrame} (h : s.frames.cur = some c) (hw : ¬ c.window.isSome) :
    s.closeWindow = s := by
  rw [closeWindow_some h, if_neg hw]

/-- R63: what a frame trigger writes once the window is closed. -/
def openFrame (s : State) : State :=
  { s with frames := { s.frames with
      n := if s.frames.opened then s.frames.n + 1 else s.frames.n, opened := true
      cur := some { trigger := s.tick, window := some (later s.tick s.frames.params.window), sn := none
                    fenTaken := false } } }

theorem frameTrigger_eq {s : State} {c : CurFrame} (h : s.frames.cur = some c) :
    s.frameTrigger = if c.window.isSome ∧ c.sn = none then s.openFrame.raise .frameMissed else s.openFrame := by
  have htrigger : s.frameTrigger = s.closeWindow.openFrame := rfl
  rw [htrigger]
  by_cases hw : c.window.isSome
  · rw [closeWindow_open h hw]
    by_cases hn : c.sn = none
    · rw [if_pos hn, if_pos ⟨hw, hn⟩]
      rfl
    · rw [if_neg hn, if_neg fun hboth => hn hboth.2]
      rfl
  · rw [closeWindow_closed h hw, if_neg fun hboth => hw hboth.1]

theorem strobe_taken {s : State} {c : CurFrame} (h : s.frames.cur = some c) (hst : s.frames.state ≠ .idle)
    (hw : c.window.isSome) (hn : c.sn = none) : s.strobe = ({ s with frames := { s.frames with
      state := .tracking, cur := some { c with sn := some s.tick } } } : State).placeBands s.tick := by
  have hwants : s.frames.wantsStrobe = true := by simp [Frames.wantsStrobe, h, hst, hw, hn]
  simp only [strobe, h]
  exact if_pos hwants

theorem strobe_discarded {s : State} (h : s.frames.state = .idle ∨ s.frames.cur = none
    ∨ ∃ c ∈ s.frames.cur, c.window = none ∨ c.sn.isSome) : s.strobe = s := by
  unfold strobe
  split
  case h_1 c hc =>
    refine if_neg ?_
    rcases h with hidle | hnone | ⟨x, hx, hor⟩
    · simp [Frames.wantsStrobe, hidle]
    · rw [hc] at hnone
      cases hnone
    · obtain rfl : c = x := Option.some.inj (hc.symm.trans hx)
      rcases hor with hw | hn
      · simp [Frames.wantsStrobe, hc, hw]
      · simp [Frames.wantsStrobe, hc, Option.isSome_iff_ne_none.mp hn]
  case h_2 => rfl

theorem endStrobe_taken {s : State} {c : CurFrame} {t : Tick} (h : s.frames.cur = some c)
    (hst : s.frames.state ≠ .idle) (hn : c.sn = some t) (hf : c.fenTaken = false) :
    s.endStrobe = { s with frames := { s.frames with
      cur := some { c with fenTaken := true }
      rEst := if 1 ≤ dist s.tick t ∧ dist s.tick t ≤ s.frames.params.period then dist s.tick t
              else s.frames.rEst } } := by
  simp only [endStrobe, h, hn]
  exact if_pos ⟨hst, hf⟩

theorem endStrobe_discarded {s : State} (h : s.frames.state = .idle ∨ s.frames.cur = none
    ∨ ∃ c ∈ s.frames.cur, c.sn = none ∨ c.fenTaken = true) : s.endStrobe = s := by
  unfold endStrobe
  split
  case h_1 c hc =>
    split
    case h_1 t ht =>
      refine if_neg fun ⟨hst, hf⟩ => ?_
      rcases h with hidle | hnone | ⟨x, hx, hor⟩
      · exact hst hidle
      · rw [hc] at hnone
        cases hnone
      · obtain rfl : c = x := Option.some.inj (hc.symm.trans hx)
        simp_all
    case h_2 => rfl
  case h_2 => rfl

end State

/-- Settles O25. -/
theorem strobes : Obligations.Strobes := by
  refine ⟨fun c s hv hc hw => ⟨_, rfl, ?_⟩, fun c s hc => ⟨_, rfl, State.frameTrigger_eq hc⟩,
    fun c s hv hc hst hw hn => ?_, fun s hv h => ?_, fun c t s hv hc hst hn hf => ?_, fun s hv h => ?_⟩
  · dsimp only [exec, execWindowExpiry]
    rw [State.event_taken _ hv (by simp [State.due, hc, hw]), State.closeWindow_open hc (by simp [hw])]
  · dsimp only [exec, execFstCapture]
    rw [State.whenPowered_on _ hv, State.emptied_capture]
    exact congrArg _ (State.strobe_taken (s := s.emptied .fst) hc hst hw hn)
  · dsimp only [exec, execFstCapture]
    rw [State.whenPowered_on _ hv, State.emptied_capture]
    exact congrArg _ (State.strobe_discarded (s := s.emptied .fst) h)
  · dsimp only [exec, execFenCapture]
    rw [State.whenPowered_on _ hv, State.emptied_capture]
    exact congrArg _ (State.endStrobe_taken (s := s.emptied .fen) hc hst hn hf)
  · dsimp only [exec, execFenCapture]
    rw [State.whenPowered_on _ hv, State.emptied_capture]
    exact congrArg _ (State.endStrobe_discarded (s := s.emptied .fen) h)

/-! ### Bands -/

namespace State

theorem deliver_frames (s : State) (r : CorrRec) :
    (s.deliver r).frames = { s.frames with queue := joinQueue s.frames.queue r } := by
  have hcount (u : State) : (u.countBand r).frames = u.frames := countBand_writes u r .frames (by decide)
  unfold deliver
  dsimp only
  rw [hcount]
  split <;> rfl

/-- Forming bands writes the pending bands and the queue of the Frame Tracker alone. -/
theorem force_frames (k : Nat) (s : State) : ∃ bands queue,
    (s.force k).frames = { s.frames with bands := bands, queue := queue } := by
  induction k generalizing s with
  | zero => exact ⟨_, _, rfl⟩
  | succ k ih =>
    obtain ⟨bands, queue, h⟩ := ih s.forceOldest
    rw [force, h]
    unfold forceOldest
    split
    · exact ⟨_, _, rfl⟩
    · rw [formBand, deliver_frames]
      exact ⟨_, _, rfl⟩

theorem force_link (k : Nat) (s : State) : (s.force k).link = s.link := by
  induction k generalizing s with
  | zero => rfl
  | succ k ih =>
    rw [force, ih]
    unfold forceOldest
    split
    · rfl
    · exact formBand_writes s _ _ .link (by decide)

theorem formBand_of_cons {s : State} {b : Band} {rest : List Band} (x : Found) (h : s.frames.bands = b :: rest) :
    s.formBand b x = ({ s with frames := { s.frames with bands := rest } } : State).deliver (s.record b x) := by
  rw [formBand, h, List.tail_cons]

theorem examine_nil {s : State} (h : s.frames.bands = []) : s.examine = s := by
  rw [examine, h]
  rfl

/-- R69: an examination forms the oldest band that is ready and goes on. -/
theorem examine_ready {s : State} {b : Band} {rest : List Band} {x : Found} (h : s.frames.bands = b :: rest)
    (hx : s.ready b = some x) :
    s.examine = (({ s with frames := { s.frames with bands := rest } } : State).deliver (s.record b x)).examine := by
  have hrest : (s.formBand b x).frames.bands.length = rest.length := by rw [formBand_bands, h, List.tail_cons]
  have hexamine : s.examine = s.examineN (rest.length + 1) := by rw [examine, h, List.length_cons]
  rw [← formBand_of_cons x h, hexamine, examine, hrest]
  simp only [examineN, h, hx]

theorem examine_stops {s : State} {b : Band} {rest : List Band} (h : s.frames.bands = b :: rest)
    (hx : s.ready b = none) : s.examine = s := by
  have hexamine : s.examine = s.examineN (rest.length + 1) := by rw [examine, h, List.length_cons]
  rw [hexamine]
  simp only [examineN, h, hx]

theorem ready_covered {s : State} {b : Band} {x : Found} (h : coverage s.motion.history b.time = some x) :
    s.ready b = some x := by
  simp only [ready, h]

theorem ready_deadline {s : State} {b : Band} (h : coverage s.motion.history b.time = none) :
    s.ready b = if b.deadline.isNone then some (deadlineCase s.motion.history) else none := by
  simp only [ready, h]

end State

/-- Settles O26. -/
theorem bandsArePlacedAndExamined : Obligations.BandsArePlacedAndExamined := by
  refine ⟨fun T s => ⟨⟨(List.range s.frames.params.bands).map (mkBand s.frames.n T s.frames.rEst s.frames.params.bands
      s.link.settings.pImu), by simp, fun b h => ⟨_, rfl, by simp [mkBand]⟩, _, rfl, State.force_bands _ s, ?_⟩, rfl,
      fun k b rest h => ?_⟩, fun s h => State.examine_nil h,
    fun b rest s h => ⟨fun x hx => State.examine_ready h (State.ready_covered hx), fun hx hd => ?_, fun hx hd => ?_⟩,
    fun n i s hv hex => ⟨s.frames.bands.map (Band.pass n i s.tick), by simp, fun k h h' => ?_, ?_⟩⟩
  · obtain ⟨bands, queue, hframes⟩ := State.force_frames (s.frames.bands.length + s.frames.params.bands - 64) s
    have hlink := State.force_link (s.frames.bands.length + s.frames.params.bands - 64) s
    unfold State.placeBands
    dsimp only
    rw [hlink, hframes]
  · rw [State.force]
    congr 1
    unfold State.forceOldest
    rw [h]
    exact State.formBand_of_cons _ h
  · refine State.examine_ready h ((State.ready_deadline hx).trans ?_)
    rw [hd]
    rfl
  · refine State.examine_stops h ((State.ready_deadline hx).trans (if_neg ?_))
    simpa using hd
  · rw [List.getElem_map, Band.pass]
    simp only [Band.expires, Bool.and_eq_true, decide_eq_true_eq, and_assoc]
  · dsimp only [exec, execBandDeadlineExpiry]
    refine State.event_taken _ hv (List.any_eq_true.mpr ?_)
    obtain ⟨b, hb, hn, hi, hd⟩ := hex
    exact ⟨b, hb, by simp [Band.expires, hn, hi, hd]⟩

end Sys2Proof.Machine

/-! # Correction records: the history, the record and its delivery -/

namespace Sys2Proof.Machine

/-! ### What the history gives an instant -/

theorem atOrAfter_self (t : Tick) : atOrAfter t t = true := by
  simp [atOrAfter, dist]

section
variable {early late : List HistEntry} {t : Tick}

/-- The entries of a history parted at an instant that none of them has. -/
theorem find_exact_none (hearly : ∀ e ∈ early, atOrAfter e.tick t = false)
    (hlate : ∀ e ∈ late, atOrAfter e.tick t = true ∧ e.tick ≠ t) :
    (early ++ late).find? (fun e => e.tick = t) = none := by
  refine List.find?_eq_none.mpr fun e he heq => ?_
  rw [decide_eq_true_eq] at heq
  rcases List.mem_append.mp he with he | he
  · have hno := hearly e he
    rw [heq, atOrAfter_self] at hno
    cases hno
  · exact (hlate e he).2 heq

theorem find_after_eq (hearly : ∀ e ∈ early, atOrAfter e.tick t = false)
    (hlate : ∀ e ∈ late, atOrAfter e.tick t = true ∧ e.tick ≠ t) :
    (early ++ late).find? (fun e => atOrAfter e.tick t) = late.head? := by
  have hnone : early.find? (fun e => atOrAfter e.tick t) = none :=
    List.find?_eq_none.mpr fun e he => by simp [hearly e he]
  rw [List.find?_append, hnone, Option.none_or]
  cases late with
  | nil => rfl
  | cons e late => exact List.find?_cons_of_pos (hlate e List.mem_cons_self).1

theorem filter_before_eq (hearly : ∀ e ∈ early, atOrAfter e.tick t = false)
    (hlate : ∀ e ∈ late, atOrAfter e.tick t = true ∧ e.tick ≠ t) :
    (early ++ late).filter (fun e => !atOrAfter e.tick t) = early := by
  have hkeep : early.filter (fun e => !atOrAfter e.tick t) = early :=
    List.filter_eq_self.mpr fun e he => by simp [hearly e he]
  have hdrop : late.filter (fun e => !atOrAfter e.tick t) = [] :=
    List.filter_eq_nil_iff.mpr fun e he => by simp [(hlate e he).1]
  rw [List.filter_append, hkeep, hdrop, List.append_nil]

/-- R70: between two entries. -/
theorem coverage_between {e0 e1 : HistEntry} (hearly : ∀ e ∈ early ++ [e0], atOrAfter e.tick t = false)
    (hlate : ∀ e ∈ e1 :: late, atOrAfter e.tick t = true ∧ e.tick ≠ t) :
    coverage (early ++ e0 :: e1 :: late) t = some (bracket t e0 e1) := by
  have hsplit : early ++ e0 :: e1 :: late = (early ++ [e0]) ++ e1 :: late := by simp
  rw [hsplit]
  unfold coverage
  rw [find_exact_none hearly hlate, find_after_eq hearly hlate, filter_before_eq hearly hlate]
  simp

/-- R70: before every entry. -/
theorem coverage_before {e1 : HistEntry} (hlate : ∀ e ∈ e1 :: late, atOrAfter e.tick t = true ∧ e.tick ≠ t) :
    coverage (e1 :: late) t = some (fromEntry true e1) := by
  have hearly : ∀ e ∈ ([] : List HistEntry), atOrAfter e.tick t = false := by simp
  rw [← List.nil_append (e1 :: late)]
  unfold coverage
  rw [find_exact_none hearly hlate, find_after_eq hearly hlate, filter_before_eq hearly hlate]
  rfl

/-- R69: after every entry. -/
theorem coverage_after (hearly : ∀ e ∈ early, atOrAfter e.tick t = false) : coverage early t = none := by
  have hlate : ∀ e ∈ ([] : List HistEntry), atOrAfter e.tick t = true ∧ e.tick ≠ t := by simp
  rw [← List.append_nil early]
  unfold coverage
  rw [find_exact_none hearly hlate, find_after_eq hearly hlate, filter_before_eq hearly hlate]
  rfl

/-- R70: at the tick of an entry, the first of that tick. -/
theorem coverage_at {e1 : HistEntry} (he : e1.tick = t) (hearly : ∀ e ∈ early, e.tick ≠ t) :
    coverage (early ++ e1 :: late) t = some (fromEntry false e1) := by
  have hnone : early.find? (fun e => e.tick = t) = none :=
    List.find?_eq_none.mpr fun e h => by simp [hearly e h]
  have hfind : (early ++ e1 :: late).find? (fun e => e.tick = t) = some e1 := by
    rw [List.find?_append, hnone, Option.none_or]
    exact List.find?_cons_of_pos (by simp [he])
  unfold coverage
  rw [hfind]

end

theorem deadlineCase_last (early : List HistEntry) (e : HistEntry) :
    deadlineCase (early ++ [e]) = fromEntry true e := by
  unfold deadlineCase
  rw [List.getLast?_concat]

/-! ### The record -/

theorem shift_one (c : Int) (d : Nat) : shift c 1 d = -(nearest c d) := by
  simp [shift]

/-- R72 to R74. -/
theorem record_eq {b : Band} {x : Found} {s : State} {dx dy droll : Int}
    (hx : dx = -(nearest (x.angle.yaw * s.frames.lens.fx) (2 ^ 24)))
    (hy : dy = -(nearest (x.angle.pitch * s.frames.lens.fy) (2 ^ 24)))
    (hr : droll = -(nearest x.angle.roll (2 ^ 16))) :
    s.record b x =
      { frame := b.frame, band := b.index, time := b.time, formed := s.tick
        dx := max (-(s.frames.lens.mx : Int)) (min s.frames.lens.mx dx)
        dy := max (-(s.frames.lens.my : Int)) (min s.frames.lens.my dy)
        droll := max (-(s.frames.lens.mroll : Int)) (min s.frames.lens.mroll droll)
        stale := x.stale, noMotion := x.noMotion, pinned := x.pinned
        clamped := decide (s.frames.lens.mx < dx.natAbs ∨ s.frames.lens.my < dy.natAbs
          ∨ s.frames.lens.mroll < droll.natAbs)
        shock := s.motion.episode.isSome, droppedBefore := false } := by
  have hdx : shift x.angle.yaw s.frames.lens.fx (2 ^ 24) = dx := hx.symm
  have hdy : shift x.angle.pitch s.frames.lens.fy (2 ^ 24) = dy := hy.symm
  have hdroll : shift x.angle.roll 1 (2 ^ 16) = droll := by rw [shift_one, hr]
  unfold State.record
  dsimp only
  rw [hdx, hdy, hdroll]
  simp only [saturate, Bool.decide_or, Bool.or_assoc]

/-! ### Delivery -/

/-- R78: the record counts into a clip by its flags. -/
theorem Clip.countBand_eq (r : CorrRec) (y : Clip) : y.countBand r = { y with
    staleBands := if r.stale ∨ r.noMotion then min 65535 (y.staleBands + 1) else y.staleBands
    pinnedBands := if r.pinned ∨ r.clamped then min 65535 (y.pinnedBands + 1) else y.pinnedBands } := by
  simp only [Clip.countBand, count16, Bool.or_eq_true]

namespace State

/-- R75, R76: a delivery before its record counts into a clip. -/
def joined (s : State) (r : CorrRec) : State :=
  if s.frames.params.watermark ≤ (joinQueue s.frames.queue r).length then
    ({ s with frames := { s.frames with queue := joinQueue s.frames.queue r } } : State).raise .corrReady
  else { s with frames := { s.frames with queue := joinQueue s.frames.queue r } }

theorem deliver_eq (s : State) (r : CorrRec) : s.deliver r = (s.joined r).countBand r := rfl

theorem joined_catalogue (s : State) (r : CorrRec) : (s.joined r).catalogue = s.catalogue := by
  unfold joined
  split <;> rfl

theorem joined_store (s : State) (r : CorrRec) : (s.joined r).store = s.store := by
  unfold joined
  split <;> rfl

/-- R76: CORR_READY at or above the watermark. -/
theorem deliver_portA (s : State) (r : CorrRec) : (s.deliver r).portA =
    if s.frames.params.watermark ≤ (s.deliver r).frames.queue.length then (s.raise .corrReady).portA else s.portA := by
  have hcount : ((s.joined r).countBand r).portA = (s.joined r).portA := countBand_writes _ r .portA (by decide)
  rw [deliver_frames, deliver_eq, hcount]
  unfold joined
  split <;> rfl

theorem deliver_whole (s : State) (r : CorrRec) : s.deliver r =
    { s with frames := (s.deliver r).frames, catalogue := (s.deliver r).catalogue, portA := (s.deliver r).portA } := by
  have h := deliver_writes s r
  rw [Writes, Block.forall_iff] at h
  rw [eq_iff_same, Block.forall_iff]
  simpa using h

theorem gateOpen_iff (s : State) : s.gateOpen = true ↔ s.store.gate = .opened := by
  simp [gateOpen]

theorem gateOpen_of_closed {s : State} (h : s.store.gate = .closed) : s.gateOpen = false := by
  simp [gateOpen, h]

theorem countBand_uncounted {s : State} (r : CorrRec) (h : s.store.gate = .closed ∨ s.catalogue.openClip = none) :
    s.countBand r = s := by
  unfold countBand
  split
  case h_1 x hx =>
    rcases h with hgate | hnone
    · exact if_neg (by simp [gateOpen_of_closed hgate])
    · rw [hx] at hnone
      cases hnone
  case h_2 => rfl

theorem countBand_counted {s : State} {x : Clip} (r : CorrRec) (hgate : s.store.gate = .opened)
    (hx : s.catalogue.openClip = some x) :
    s.countBand r = { s with catalogue := s.catalogue.onClip x.number (Clip.countBand r) } := by
  simp only [countBand, hx]
  exact if_pos ((gateOpen_iff s).mpr hgate)

end State

theorem joinQueue_room {q : List CorrRec} (r : CorrRec) (h : q.length < 64) : joinQueue q r = q ++ [r] := by
  rw [joinQueue, if_neg (Nat.not_le.mpr h)]

/-- R75: of a full queue the oldest record goes, and the next carries DROPPED_BEFORE. -/
theorem joinQueue_full {o h : CorrRec} {rest : List CorrRec} (r : CorrRec) (hlen : rest.length = 62) :
    joinQueue (o :: h :: rest) r = { h with droppedBefore := true } :: (rest ++ [r]) := by
  rw [joinQueue, if_pos (by simp [hlen])]
  rfl

/-- Settles O27. -/
theorem recordsFromTheHistory : Obligations.RecordsFromTheHistory := by
  refine ⟨fun t pre post e0 e1 => ⟨fun he hpre => coverage_at he hpre, fun hpre hpost => coverage_between hpre hpost,
      fun hpost => coverage_before hpost, fun hpre => coverage_after hpre, deadlineCase_last pre e1, rfl⟩,
    fun b x s dx dy droll hx hy hr => record_eq hx hy hr, fun r s => ⟨fun hroom => ?_, fun o h rest hq hlen => ?_,
      State.deliver_portA s r, State.deliver_whole s r, fun hno => ?_, fun x hgate hx => ?_⟩⟩
  · rw [State.deliver_frames, joinQueue_room r hroom]
  · rw [State.deliver_frames, hq, joinQueue_full r hlen]
  · rw [← Catalogue.openClip_none_iff, ← State.joined_catalogue s r, ← State.joined_store s r] at hno
    rw [State.deliver_eq, State.countBand_uncounted r hno, State.joined_catalogue]
  · rw [State.deliver_eq, State.countBand_counted r ((congrArg Store.gate (State.joined_store s r)).trans hgate)
      ((congrArg Catalogue.openClip (State.joined_catalogue s r)).trans hx)]
    simp only [State.joined_catalogue, Catalogue.onClip, Clip.countBand_eq]

end Sys2Proof.Machine

/-! # The clip catalogue: the card, recording and reading -/

namespace Sys2Proof.Machine

/-! ### What the rules of chapter 5 read -/

namespace State

@[simp] theorem take_gateOpen (s : State) (p : Port) (c : Byte) (f : Frame) : (s.take p c f).gateOpen = s.gateOpen := by
  cases p <;> rfl

@[simp] theorem take_stamp (s : State) (p : Port) (c : Byte) (f : Frame) : (s.take p c f).stamp = s.stamp := by
  cases p <;> rfl

@[simp] theorem take_newClip (s : State) (p : Port) (c : Byte) (f : Frame) : (s.take p c f).newClip = s.newClip := by
  cases p <;> rfl

theorem not_gateOpen_iff (s : State) : (!s.gateOpen) = true ↔ s.store.gate = .closed := by
  cases h : s.store.gate <;> simp [gateOpen, h]

/-- A new catalogue in the state that has taken a request. -/
theorem take_setCatalogue (s : State) (p : Port) (x : Byte) (f : Frame) (c : Catalogue) :
    ({ s.take p x f with catalogue := c } : State) = ({ s with catalogue := c } : State).take p x f := by
  cases p <;> rfl

end State

theorem cardSet_local : State.Local cardSet := by
  intro p b s x f
  unfold cardSet
  simp only [State.take_catalogue, State.take_gateOpen, State.take_setCatalogue]
  split_ifs <;> rfl

theorem formatCatalogue_local : State.Local formatCatalogue := by
  intro p b s x f
  unfold formatCatalogue
  simp only [State.take_catalogue, State.take_gateOpen, State.take_setCatalogue]
  split_ifs <;> rfl

/-- Settles O29. -/
theorem cardRequests : Obligations.CardRequests := by
  refine ⟨fun p f card s hadm hcard => ?_, fun p f s hadm => ?_⟩
  · subst hcard
    refine (State.doRequest_concluded cardSet_local hadm).trans (congrArg _ ?_)
    unfold cardSet
    simp only [Catalogue.openClip_isSome_iff, State.not_gateOpen_iff]
    split_ifs <;> rfl
  · refine (State.doRequest_concluded formatCatalogue_local hadm).trans (congrArg _ ?_)
    unfold formatCatalogue
    simp only [Catalogue.openClip_isSome_iff, State.not_gateOpen_iff]
    split_ifs <;> rfl

/-! ### Recording -/

theorem clipOpen_local : State.Local clipOpen := by
  intro p b s x f
  unfold clipOpen
  simp only [State.take_catalogue, State.take_gateOpen, State.take_newClip, State.take_setCatalogue]
  cases s.catalogue.select .record <;> split_ifs <;> rfl

theorem clipProgress_local : State.Local clipProgress := by
  intro p b s x f
  unfold clipProgress
  simp only [State.take_catalogue, State.take_gateOpen, State.take_setCatalogue]
  cases s.catalogue.openClip with
  | none => split_ifs <;> rfl
  | some y =>
    dsimp only
    split_ifs <;> rfl

theorem clipClose_local : State.Local clipClose := by
  intro p b s x f
  unfold clipClose
  simp only [State.take_catalogue, State.take_gateOpen, State.take_stamp, State.take_setCatalogue]
  cases s.catalogue.openClip with
  | none => rfl
  | some y =>
    dsimp only
    split_ifs <;> rfl

theorem clipProgress_tooMany {p : Port} {b : List Byte} (s : State) (h : 16777216 < field b 0 4) :
    clipProgress p b s = (s, .done .badValue []) := if_pos h

theorem clipProgress_closed {p : Port} {b : List Byte} {s : State} (h : field b 0 4 ≤ 16777216)
    (hopen : s.catalogue.openClip = none) : clipProgress p b s = (s, .done .wrongState []) := by
  unfold clipProgress
  simp only [hopen]
  exact if_neg (Nat.not_lt.mpr h)

/-- R97: CLIP_PROGRESS on an OPEN clip. -/
theorem clipProgress_opened {p : Port} {b : List Byte} {s : State} {x : Clip} (h : field b 0 4 ≤ 16777216)
    (hopen : s.catalogue.openClip = some x) : clipProgress p b s =
      if s.store.gate = .closed then (s, .done .gateClosed [])
      else if field b 0 4 < x.committed ∨ x.committed + x.reserved < field b 0 4 then (s, .done .badValue [])
      else (s.mapClips fun y => if y.number = x.number then
          { y with committed := field b 0 4, reserved := x.committed + x.reserved - field b 0 4 } else y,
        .done .ok (beBytes 4 (field b 0 4) ++ beBytes 4 (x.committed + x.reserved - field b 0 4))) := by
  unfold clipProgress
  simp only [hopen, State.not_gateOpen_iff]
  rw [if_neg (Nat.not_lt.mpr h)]
  split_ifs with hgate hrange
  · rfl
  · rfl
  · have hres : x.reserved - (field b 0 4 - x.committed) = x.committed + x.reserved - field b 0 4 := by omega
    rw [hres]
    rfl

theorem clipClose_closed {p : Port} {b : List Byte} {s : State} (hopen : s.catalogue.openClip = none) :
    clipClose p b s = (s, .done .wrongState []) := by
  simp only [clipClose, hopen]

theorem clipClose_opened {p : Port} {b : List Byte} {s : State} {x : Clip} (hopen : s.catalogue.openClip = some x) :
    clipClose p b s = if s.store.gate = .closed then (s, .done .gateClosed [])
      else ({ s with catalogue := { s.catalogue.onClip x.number (fun y => { y with
          state := .closed, ending := some s.stamp, frameCount := some (field b 0 4), reserved := 0 }) with
            reservation := none } },
        .done .ok (beBytes 4 x.number ++ beBytes 4 x.committed ++ encStamp s.stamp)) := by
  simp only [clipClose, hopen, State.not_gateOpen_iff]

/-- Settles O30. -/
theorem clipRecording : Obligations.ClipRecording := by
  refine ⟨fun p f x s hadm hx => ?_, fun p f n s hadm hn => ⟨fun h => ?_, fun h hopen => ?_, fun x h hopen => ?_⟩,
    fun p f s hadm => ⟨fun hopen => ?_, fun x now t hopen hnow ht => ?_⟩⟩
  · have hnew : s.newClip = x := hx.symm
    refine (State.doRequest_concluded clipOpen_local hadm).trans (congrArg _ ?_)
    unfold clipOpen
    simp only [Catalogue.openClip_isSome_iff, State.not_gateOpen_iff, hnew]
    cases s.catalogue.select .record <;> split_ifs <;> rfl
  · subst hn
    exact State.doRequest_local clipProgress_local hadm (clipProgress_tooMany s h)
  · subst hn
    exact State.doRequest_local clipProgress_local hadm (clipProgress_closed h hopen)
  · subst hn
    refine (State.doRequest_concluded clipProgress_local hadm).trans (congrArg _ ?_)
    rw [clipProgress_opened h hopen]
    split_ifs <;> rfl
  · exact State.doRequest_local clipClose_local hadm (clipClose_closed hopen)
  · subst hnow ht
    refine (State.doRequest_concluded clipClose_local hadm).trans (congrArg _ ?_)
    rw [clipClose_opened hopen]
    split_ifs <;> rfl

/-! ### Reading -/

theorem clipRead_local : State.Local clipRead := by
  intro p b s x f
  unfold clipRead
  simp only [State.take_catalogue]
  cases s.catalogue.clip (field b 0 4) <;> split_ifs <;> rfl

theorem clipList_local : State.Local clipList := by
  intro p b s x f
  unfold clipList
  rw [State.take_catalogue]
  cases clipFilter (byteAt b 4) <;> rfl

/-- R100: the clip numbers that none can have. -/
theorem not_clipNumberOk_iff (n : Nat) : (!clipNumberOk n) = true ↔ n = 0 ∨ n = 4294967295 := by
  simp only [clipNumberOk, Bool.not_eq_true', Bool.and_eq_false_iff, bne_eq_false_iff_eq]

theorem clipFilter_none {code : Byte} (h : 7 < code.toNat) : clipFilter code = none := by
  have hne : ∀ k : Byte, k.toNat ≤ 7 → code ≠ k := fun k hk heq => by
    subst heq
    omega
  unfold clipFilter
  rw [if_neg (hne 0 (by decide)), if_neg (hne 1 (by decide)), if_neg (hne 2 (by decide)), if_neg (hne 3 (by decide)),
    if_neg (hne 4 (by decide)), if_neg (hne 5 (by decide)), if_neg (hne 6 (by decide)), if_neg (hne 7 (by decide))]

/-- R109: the filter a code names takes the records of its state or protection. -/
theorem clipFilter_some {code : Byte} (h : code.toNat ≤ 7) : ∃ keep, clipFilter code = some keep
    ∧ ∀ x : Clip, keep x = true ↔ code.toNat = 0
      ∨ (code.toNat = 1 ∧ x.state = .opened) ∨ (code.toNat = 2 ∧ x.state = .closed)
      ∨ (code.toNat = 3 ∧ x.state = .cut) ∨ (code.toNat = 4 ∧ x.state = .recycling)
      ∨ (code.toNat = 5 ∧ x.protection = .none) ∨ (code.toNat = 6 ∧ x.protection = .user)
      ∨ (code.toNat = 7 ∧ x.protection = .crash) := by
  unfold clipFilter
  split_ifs with h0 h1 h2 h3 h4 h5 h6 h7
  case neg =>
    have hne : ∀ k : Nat, code = BitVec.ofNat 8 k ∨ code.toNat ≠ k := fun k => by
      by_cases hk : code.toNat = k
      · exact .inl (by rw [← hk, BitVec.ofNat_toNat, BitVec.setWidth_eq])
      · exact .inr hk
    have n0 := (hne 0).resolve_left h0
    have n1 := (hne 1).resolve_left h1
    have n2 := (hne 2).resolve_left h2
    have n3 := (hne 3).resolve_left h3
    have n4 := (hne 4).resolve_left h4
    have n5 := (hne 5).resolve_left h5
    have n6 := (hne 6).resolve_left h6
    have n7 := (hne 7).resolve_left h7
    omega
  all_goals
    subst code
    exact ⟨_, rfl, fun x => by simp⟩

/-- Settles O33. -/
theorem clipReading : Obligations.ClipReading := by
  refine ⟨fun p f n s hadm hn => ?_, fun p f s hadm => ⟨fun h => ?_, fun keep found h hkeep hfound => ?_⟩⟩
  · subst hn
    refine (State.doRequest_concluded clipRead_local hadm).trans (congrArg _ ?_)
    unfold clipRead
    simp only [not_clipNumberOk_iff]
    cases s.catalogue.clip (field f.body 0 4) <;> split_ifs <;> rfl
  · rw [field_one] at h
    refine State.doRequest_local clipList_local hadm ?_
    simp only [clipList, clipFilter_none h]
  · rw [field_one] at h
    simp only [field_one] at hkeep
    obtain ⟨own, hown, hspec⟩ := clipFilter_some h
    have hsame : own = keep := funext fun x => Bool.eq_iff_iff.mpr ((hspec x).trans (hkeep x).symm)
    subst hsame
    refine State.doRequest_local clipList_local hadm ?_
    simp only [clipList, hown, ← hfound, List.length_take, encBool, decide_eq_true_eq]

end Sys2Proof.Machine

/-! # The clip catalogue: selection, reservations and upkeep -/

namespace Sys2Proof.Machine

/-! ### Selection -/

/-- R91: the victims are the first candidates, as many as the need takes and no more than eight in all. -/
theorem takeVictims_eq (met : List Clip → Bool) (taken cands : List Clip) (h : taken.length ≤ 8) :
    ∃ k, k ≤ cands.length ∧ takeVictims met taken cands = taken ++ cands.take k ∧ taken.length + k ≤ 8
      ∧ (k = cands.length ∨ met (taken ++ cands.take k) = true ∨ taken.length + k = 8)
      ∧ ∀ j < k, met (taken ++ cands.take j) = false := by
  induction cands generalizing taken with
  | nil => exact ⟨0, le_rfl, by simp [takeVictims], h, .inl rfl, by simp⟩
  | cons x xs ih =>
    unfold takeVictims
    by_cases hstop : met taken = true ∨ 8 ≤ taken.length
    · rw [if_pos (by simpa using hstop)]
      refine ⟨0, Nat.zero_le _, by simp, h, .inr ?_, by simp⟩
      rcases hstop with hmet | hfull
      · exact .inl (by simpa using hmet)
      · exact .inr (by omega)
    · rw [if_neg (by simpa using hstop)]
      have hmet : met taken = false := by simpa using (not_or.mp hstop).1
      have hroom : taken.length < 8 := Nat.not_le.mp (not_or.mp hstop).2
      obtain ⟨k, hk, heq, hlen, hend, hmin⟩ := ih (taken ++ [x]) (by simpa using hroom)
      simp only [List.length_append, List.length_singleton, List.append_assoc, List.singleton_append] at heq hlen hend hmin
      refine ⟨k + 1, Nat.succ_le_succ hk, by simpa using heq, by omega, ?_, ?_⟩
      · rcases hend with rfl | hm | h8
        · exact .inl rfl
        · exact .inr (.inl (by simpa using hm))
        · exact .inr (.inr (by omega))
      · intro j hj
        cases j with
        | zero => simpa using hmet
        | succ j => simpa using hmin j (Nat.lt_of_succ_lt_succ hj)

theorem select_none {c : Catalogue} {need : Need} (h : c.meets need (c.clips.filter Clip.candidate) = false) :
    c.select need = none :=
  if_neg (by simp [h])

/-- R90, R91: a need the candidates meet takes the shortest run of first candidates that meets it, of at most 8. -/
theorem select_some {c : Catalogue} {need : Need} (h : c.meets need (c.clips.filter Clip.candidate) = true) :
    ∃ k, k ≤ 8 ∧ k ≤ (c.clips.filter Clip.candidate).length
      ∧ (c.meets need ((c.clips.filter Clip.candidate).take k) = true ∨ k = 8)
      ∧ (∀ j < k, c.meets need ((c.clips.filter Clip.candidate).take j) = false)
      ∧ c.select need = some (((c.clips.filter Clip.candidate).take k).map Clip.number,
        { c with clips := c.clips.map fun x =>
            if (((c.clips.filter Clip.candidate).take k).map Clip.number).contains x.number then x.recycle else x }) := by
  obtain ⟨k, hk, heq, hlen, hend, hmin⟩ := takeVictims_eq (c.meets need) [] (c.clips.filter Clip.candidate) (by simp)
  simp only [List.nil_append, List.length_nil, Nat.zero_add] at heq hlen hend hmin
  refine ⟨k, hlen, hk, ?_, hmin, ?_⟩
  · rcases hend with hall | hmet
    · exact .inl (by rw [hall, List.take_length]; exact h)
    · exact hmet
  · rw [← heq]
    exact if_pos h

/-! ### Reservations -/

theorem clipReserve_local : State.Local clipReserve := by
  intro p b s x f
  unfold clipReserve
  simp only [State.take_catalogue, State.take_gateOpen, State.take_setCatalogue]
  cases s.catalogue.openClip with
  | none => split_ifs <;> rfl
  | some y => cases s.catalogue.select (.units (field b 0 4)) <;> dsimp only <;> split_ifs <;> rfl

theorem clipReserve_badValue {p : Port} {b : List Byte} (s : State) (h : field b 0 4 = 0 ∨ 65535 < field b 0 4) :
    clipReserve p b s = (s, .done .badValue []) := if_pos h

theorem clipReserve_wrongState {p : Port} {b : List Byte} {s : State} (h1 : 1 ≤ field b 0 4) (h2 : field b 0 4 ≤ 65535)
    (h : s.catalogue.openClip = none ∨ s.catalogue.reservation ≠ none) :
    clipReserve p b s = (s, .done .wrongState []) := by
  unfold clipReserve
  dsimp only
  rw [if_neg (by omega)]
  cases hopen : s.catalogue.openClip with
  | none => rfl
  | some x =>
    have hres : s.catalogue.reservation.isSome := Option.isSome_iff_ne_none.mpr (h.resolve_left (by simp [hopen]))
    exact if_pos hres

/-- R94: CLIP_RESERVE with an OPEN clip and no reservation pending. -/
theorem clipReserve_opened {p : Port} {b : List Byte} {s : State} {x : Clip} (h1 : 1 ≤ field b 0 4)
    (h2 : field b 0 4 ≤ 65535) (hopen : s.catalogue.openClip = some x) (hres : s.catalogue.reservation = none) :
    clipReserve p b s = if !s.gateOpen then (s, .done .gateClosed [])
      else if s.catalogue.fits (field b 0 4) then
        ({ s with catalogue := s.catalogue.grant x (field b 0 4) }, .done .ok (beBytes 4 x.committed
          ++ beBytes 4 (x.reserved + field b 0 4) ++ beBytes 4 (s.catalogue.grant x (field b 0 4)).free))
      else if s.catalogue.card.loop then
        match s.catalogue.select (.units (field b 0 4)) with
        | some (victims, c) =>
          ({ s with catalogue := { c with reservation := some (field b 0 4) } },
            .done .recycleNeeded (encClipNumbers victims ++ beBytes 4 (field b 0 4)))
        | none => (s, .done .full [])
      else (s, .done .full []) := by
  unfold clipReserve
  dsimp only
  rw [if_neg (by omega), hopen]
  exact if_neg (by simp [hres])

theorem recycling_ne_nil_iff (c : Catalogue) : c.recycling ≠ [] ↔ ∃ y ∈ c.clips, y.state = .recycling := by
  rw [Catalogue.recycling, ne_eq, List.filter_eq_nil_iff]
  simp

theorem reevaluate_none {s : State} (h : s.catalogue.reservation = none) : s.reevaluate = s := by
  simp only [State.reevaluate, h]

/-- Settles O31. -/
theorem selectionAndReservations : Obligations.SelectionAndReservations := by
  refine ⟨fun c need cands recycling enough hc hr hen => ?_, fun p f u s hadm hu => ⟨fun h => ?_, fun h1 h2 h => ?_,
    fun x h1 h2 hopen hres => ⟨fun hgate => ?_, fun t hgate hfree ht => ?_, fun hgate hfree => ?_⟩⟩,
    fun u x s t hres hopen ht => ?_, fun s h => reevaluate_none h⟩
  · have hcands : c.clips.filter Clip.candidate = cands := hc.symm
    have hmeets : ∀ sel, c.meets need sel = true ↔ enough sel := by
      intro sel
      subst hen hr
      cases need <;> simp only [Catalogue.meets, decide_eq_true_eq] <;> rfl
    refine ⟨fun hno => ?_, fun hyes => ?_⟩
    · refine select_none ?_
      rw [hcands, ← Bool.not_eq_true, hmeets]
      exact hno
    · obtain ⟨k, h8, hlen, hend, hmin, hsel⟩ := select_some (c := c) (need := need) (by rw [hcands, hmeets]; exact hyes)
      rw [hcands] at hlen hend hmin hsel
      refine ⟨k, h8, hlen, ?_, fun j hj => ?_, _, _, rfl, rfl, ?_⟩
      · rwa [hmeets] at hend
      · rw [← hmeets, Bool.not_eq_true]
        exact hmin j hj
      · rw [hsel]
        simp only [List.contains_iff_mem, Clip.recycle]
  · subst hu
    exact State.doRequest_local clipReserve_local hadm (clipReserve_badValue s h)
  · subst hu
    exact State.doRequest_local clipReserve_local hadm (clipReserve_wrongState h1 h2 h)
  · subst hu
    refine State.doRequest_local clipReserve_local hadm ?_
    rw [clipReserve_opened h1 h2 hopen hres, if_pos ((State.not_gateOpen_iff s).mpr hgate)]
  · subst hu ht
    refine State.doRequest_local clipReserve_local hadm ?_
    rw [clipReserve_opened h1 h2 hopen hres, if_neg (by simp [State.gateOpen, hgate]),
      if_pos (by simpa [Catalogue.fits] using hfree)]
    rfl
  · subst hu
    refine (State.doRequest_concluded clipReserve_local hadm).trans (congrArg _ ?_)
    rw [clipReserve_opened h1 h2 hopen hres, if_neg (by simp [State.gateOpen, hgate]),
      if_neg (by simpa [Catalogue.fits] using hfree)]
    cases s.catalogue.select (.units (field f.body 0 4)) <;> split_ifs <;> rfl
  · subst ht
    unfold State.reevaluate
    simp only [hres, hopen, recycling_ne_nil_iff, Catalogue.fits, decide_eq_true_eq]
    cases s.catalogue.select (.units u) <;> rfl

/-! ### Upkeep -/

section
variable {p : Port} {b : List Byte} {s : State} {x : Clip}

theorem clipDeleted_badValue (s : State) (h : field b 0 4 = 0 ∨ field b 0 4 = 4294967295) :
    clipDeleted p b s = (s, .done .badValue []) := if_pos ((not_clipNumberOk_iff _).mpr h)

theorem clipProtect_badValue (s : State) (h : field b 0 4 = 0 ∨ field b 0 4 = 4294967295) :
    clipProtect p b s = (s, .done .badValue []) := if_pos ((not_clipNumberOk_iff _).mpr h)

theorem clipUnprotect_badValue (s : State) (h : field b 0 4 = 0 ∨ field b 0 4 = 4294967295) :
    clipUnprotect p b s = (s, .done .badValue []) := if_pos ((not_clipNumberOk_iff _).mpr h)

theorem clipForget_badValue (s : State) (h : field b 0 4 = 0 ∨ field b 0 4 = 4294967295) :
    clipForget p b s = (s, .done .badValue []) := if_pos ((not_clipNumberOk_iff _).mpr h)

theorem not_badNumber {n : Nat} (h0 : n ≠ 0) (h1 : n ≠ 4294967295) : ¬ (!clipNumberOk n) = true := by
  rw [not_clipNumberOk_iff]
  exact not_or.mpr ⟨h0, h1⟩

theorem clipDeleted_notFound (h0 : field b 0 4 ≠ 0) (h1 : field b 0 4 ≠ 4294967295)
    (h : s.catalogue.clip (field b 0 4) = none) : clipDeleted p b s = (s, .done .notFound []) := by
  simp only [clipDeleted, h]
  exact if_neg (not_badNumber h0 h1)

theorem clipProtect_notFound (h0 : field b 0 4 ≠ 0) (h1 : field b 0 4 ≠ 4294967295)
    (h : s.catalogue.clip (field b 0 4) = none) : clipProtect p b s = (s, .done .notFound []) := by
  simp only [clipProtect, h]
  exact if_neg (not_badNumber h0 h1)

theorem clipUnprotect_notFound (h0 : field b 0 4 ≠ 0) (h1 : field b 0 4 ≠ 4294967295)
    (h : s.catalogue.clip (field b 0 4) = none) : clipUnprotect p b s = (s, .done .notFound []) := by
  simp only [clipUnprotect, h]
  exact if_neg (not_badNumber h0 h1)

theorem clipForget_notFound (h0 : field b 0 4 ≠ 0) (h1 : field b 0 4 ≠ 4294967295)
    (h : s.catalogue.clip (field b 0 4) = none) : clipForget p b s = (s, .done .notFound []) := by
  simp only [clipForget, h]
  exact if_neg (not_badNumber h0 h1)

theorem clipDeleted_found (h0 : field b 0 4 ≠ 0) (h1 : field b 0 4 ≠ 4294967295)
    (h : s.catalogue.clip (field b 0 4) = some x) : clipDeleted p b s =
      if x.state ≠ .recycling then (s, .done .wrongState [])
      else if s.store.gate = .closed then (s, .done .gateClosed [])
      else (({ s with catalogue := s.catalogue.remove (field b 0 4) } : State).reevaluate,
        .done .ok (beBytes 4 ({ s with catalogue := s.catalogue.remove (field b 0 4) } : State).reevaluate.catalogue.free)) := by
  simp only [clipDeleted, h, State.not_gateOpen_iff]
  exact if_neg (not_badNumber h0 h1)

theorem clipProtect_found (h0 : field b 0 4 ≠ 0) (h1 : field b 0 4 ≠ 4294967295)
    (h : s.catalogue.clip (field b 0 4) = some x) : clipProtect p b s =
      if x.state = .recycling then (s, .done .tooLate [])
      else if s.store.gate = .closed then (s, .done .gateClosed [])
      else ({ s with catalogue := s.catalogue.onClip (field b 0 4) fun y =>
          { y with protection := if x.protection = .crash then .crash else .user } },
        .done .ok [Protection.code (if x.protection = .crash then .crash else .user)]) := by
  simp only [clipProtect, h, State.not_gateOpen_iff]
  exact if_neg (not_badNumber h0 h1)

theorem clipUnprotect_found (h0 : field b 0 4 ≠ 0) (h1 : field b 0 4 ≠ 4294967295)
    (h : s.catalogue.clip (field b 0 4) = some x) : clipUnprotect p b s =
      if x.state = .recycling then (s, .done .wrongState [])
      else if s.store.gate = .closed then (s, .done .gateClosed [])
      else (({ s with catalogue := s.catalogue.onClip (field b 0 4) fun y => { y with protection := .none } } :
        State).reevaluate, .done .ok []) := by
  simp only [clipUnprotect, h, State.not_gateOpen_iff]
  exact if_neg (not_badNumber h0 h1)

theorem clipForget_found (h0 : field b 0 4 ≠ 0) (h1 : field b 0 4 ≠ 4294967295)
    (h : s.catalogue.clip (field b 0 4) = some x) : clipForget p b s =
      if x.state = .opened ∨ x.state = .recycling ∨ x.protection ≠ .none then (s, .done .wrongState [])
      else if s.store.gate = .closed then (s, .done .gateClosed [])
      else (({ s with catalogue := s.catalogue.remove (field b 0 4) } : State).reevaluate,
        .done .ok (beBytes 4 ({ s with catalogue := s.catalogue.remove (field b 0 4) } : State).reevaluate.catalogue.free)) := by
  simp only [clipForget, h, State.not_gateOpen_iff]
  exact if_neg (not_badNumber h0 h1)

end

theorem State.take_gate (s : State) (p : Port) (c : Byte) (f : Frame) : (s.take p c f).store.gate = s.store.gate := by
  rw [take_store]

/-- A request that its own rule refuses changes nothing but the port it came on. -/
theorem State.doRequest_refuses {s : State} {p : Port} {k : Kind} {f : Frame} {st : Status}
    {act : Port → List Byte → State → State × Reply} (hadm : s.Admits p k f)
    (hact : ∀ t : State, t.catalogue = s.catalogue → act p f.body t = (t, .done st [])) :
    s.doRequest k act p f = .next (s.replied p f (reply st k [])) :=
  doRequest_done hadm (hact _ (take_catalogue ..))

/-- Settles O32. -/
theorem clipUpkeep : Obligations.ClipUpkeep := by
  refine ⟨fun p f n s hn h => ?_, fun p f n s hn h0 h1 hno => ?_, fun p f n x s gone hn h0 h1 hx hgone hadm => ?_,
    fun p f n x prot s hn h0 h1 hx hprot hadm => ?_, fun p f n x s hn h0 h1 hx hadm => ?_,
    fun p f n x s gone hn h0 h1 hx hgone hadm => ?_⟩
  · subst hn
    exact ⟨fun hadm => State.doRequest_refuses hadm fun t _ => clipDeleted_badValue t h,
      fun hadm => State.doRequest_refuses hadm fun t _ => clipProtect_badValue t h,
      fun hadm => State.doRequest_refuses hadm fun t _ => clipUnprotect_badValue t h,
      fun hadm => State.doRequest_refuses hadm fun t _ => clipForget_badValue t h⟩
  · subst hn
    exact ⟨fun hadm => State.doRequest_refuses hadm fun t ht => clipDeleted_notFound h0 h1 (ht ▸ hno),
      fun hadm => State.doRequest_refuses hadm fun t ht => clipProtect_notFound h0 h1 (ht ▸ hno),
      fun hadm => State.doRequest_refuses hadm fun t ht => clipUnprotect_notFound h0 h1 (ht ▸ hno),
      fun hadm => State.doRequest_refuses hadm fun t ht => clipForget_notFound h0 h1 (ht ▸ hno)⟩
  · subst hn hgone
    refine (State.doRequest_admitted clipDeleted hadm).trans (congrArg _ ?_)
    rw [clipDeleted_found h0 h1 (x := x) (by rwa [State.take_catalogue]), State.take_gate, State.take_catalogue,
      State.flying_eq_take]
    split_ifs
    · exact State.take_answer ..
    · exact State.take_answer ..
    · rfl
  · subst hn hprot
    refine (State.doRequest_admitted clipProtect hadm).trans (congrArg _ ?_)
    rw [clipProtect_found h0 h1 (x := x) (by rwa [State.take_catalogue]), State.take_gate, State.take_catalogue,
      State.take_setCatalogue]
    split_ifs <;> exact State.take_answer ..
  · subst hn
    refine (State.doRequest_admitted clipUnprotect hadm).trans (congrArg _ ?_)
    rw [clipUnprotect_found h0 h1 (x := x) (by rwa [State.take_catalogue]), State.take_gate, State.flying_eq_take]
    split_ifs
    · exact State.take_answer ..
    · exact State.take_answer ..
    · rfl
  · subst hn hgone
    refine (State.doRequest_admitted clipForget hadm).trans (congrArg _ ?_)
    rw [clipForget_found h0 h1 (x := x) (by rwa [State.take_catalogue]), State.take_gate, State.take_catalogue,
      State.flying_eq_take]
    split_ifs
    · exact State.take_answer ..
    · exact State.take_answer ..
    · rfl

end Sys2Proof.Machine

/-! # Marks, shock events and crash events -/

namespace Sys2Proof.Machine

/-! ### A mark's place in a list -/

theorem insertIdx_length_append (before after : List Mark) (m : Mark) :
    (before ++ after).insertIdx before.length m = before ++ m :: after := by
  induction before with
  | nil => simp
  | cons y before ih => simpa using ih

theorem head_dropWhile_false {p : Mark → Bool} (ms : List Mark) : ∀ y ∈ (ms.dropWhile p).head?, p y = false := by
  induction ms with
  | nil => simp
  | cons x ms ih =>
    cases h : p x with
    | true => simpa [List.dropWhile_cons, h] using ih
    | false => simp [h]

/-- R113: a mark is inserted after those of its time. -/
theorem insertMark_split (ms : List Mark) (m : Mark) : ∃ before after, ms = before ++ after
    ∧ insertMark ms m = before ++ m :: after ∧ markIndex ms m = before.length
    ∧ (∀ y ∈ before, atOrAfter m.time.tick y.time.tick = true)
    ∧ (∀ y ∈ after.head?, atOrAfter m.time.tick y.time.tick = false) := by
  refine ⟨ms.takeWhile fun y => atOrAfter m.time.tick y.time.tick, ms.dropWhile fun y => atOrAfter m.time.tick y.time.tick,
    List.takeWhile_append_dropWhile.symm, ?_, rfl, fun y hy => ?_, head_dropWhile_false ms⟩
  · have hinsert := insertIdx_length_append (ms.takeWhile fun y => atOrAfter m.time.tick y.time.tick)
      (ms.dropWhile fun y => atOrAfter m.time.tick y.time.tick) m
    rwa [List.takeWhile_append_dropWhile] at hinsert
  · have := List.mem_takeWhile_imp hy
    exact this

/-! ### The lowest-peak SHOCK mark -/

theorem lowestShock_none {ms : List Mark} (k : Nat) (h : ∀ y ∈ ms, y.kind ≠ .shock) : lowestShock k ms = none := by
  induction ms generalizing k with
  | nil => rfl
  | cons m ms ih =>
    rw [lowestShock, if_neg (h m List.mem_cons_self), ih (k + 1) fun y hy => h y (List.mem_cons_of_mem _ hy)]
    rfl

/-- The mark that is found is a SHOCK mark with that peak. -/
theorem lowestShock_found {k j q : Nat} {ms : List Mark} (h : lowestShock k ms = some (j, q)) :
    ∃ i, ∃ hi : i < ms.length, j = k + i ∧ ms[i].kind = .shock ∧ q = ms[i].peak.getD 0 := by
  induction ms generalizing k with
  | nil => cases h
  | cons m ms ih =>
    unfold lowestShock at h
    rcases Catalogue.lowerPeak_cases (if m.kind = .shock then some (k, m.peak.getD 0) else none) (lowestShock (k + 1) ms)
      with hl | hl <;> rw [hl] at h
    · split at h
      case isTrue hm =>
        cases h
        exact ⟨0, by simp, rfl, hm, rfl⟩
      case isFalse => cases h
    · obtain ⟨i, hi, rfl, hkind, rfl⟩ := ih h
      exact ⟨i + 1, by simpa using hi, by omega, hkind, rfl⟩

/-- R117: the SHOCK mark that no other has a lower peak than, and none before it the same. -/
theorem lowestShock_eq {ms : List Mark} {i : Nat} (k : Nat) (hi : i < ms.length) (hkind : ms[i].kind = .shock)
    (hmin : ∀ j (hj : j < ms.length), ms[j].kind = .shock → ms[i].peak.getD 0 < ms[j].peak.getD 0
      ∨ (ms[i].peak.getD 0 = ms[j].peak.getD 0 ∧ i ≤ j)) :
    lowestShock k ms = some (k + i, ms[i].peak.getD 0) := by
  induction ms generalizing k i with
  | nil => cases hi
  | cons m ms ih =>
    cases i with
    | zero =>
      have hm : m.kind = .shock := hkind
      rw [lowestShock, if_pos hm]
      cases hrest : lowestShock (k + 1) ms with
      | none => rfl
      | some r =>
        obtain ⟨j, q⟩ := r
        obtain ⟨n, hn, -, hshock, rfl⟩ := lowestShock_found hrest
        have hle := hmin (n + 1) (by simpa using hn) hshock
        exact if_neg (by simp only [List.getElem_cons_zero, List.getElem_cons_succ] at hle; omega)
    | succ i =>
      have htail := ih (k + 1) (Nat.lt_of_succ_lt_succ hi) hkind fun j hj hshock => by
        have := hmin (j + 1) (by simpa using hj) hshock
        simp only [List.getElem_cons_succ] at this
        omega
      rw [lowestShock, htail, show k + 1 + i = k + (i + 1) by omega]
      split
      case isTrue hm =>
        have hlt := hmin 0 (by simp) hm
        exact if_pos (by simp only [List.getElem_cons_zero, List.getElem_cons_succ] at hlt; omega)
      case isFalse => rfl

/-! ### Marking a clip -/

theorem room_iff (c : Catalogue) (x : Clip) : c.room x = true ↔ x.marks.length < 16 ∧ c.poolSize < 256 := by
  simp [Catalogue.room]

theorem not_room_iff (c : Catalogue) (x : Clip) : (!c.room x) = true ↔ 16 ≤ x.marks.length ∨ 256 ≤ c.poolSize := by
  rw [Bool.not_eq_true', ← Bool.not_eq_true, room_iff]
  omega

theorem markClip_room {c : Catalogue} {x : Clip} (m : Mark) (h : x.marks.length < 16 ∧ c.poolSize < 256) :
    c.markClip m x = { x with marks := insertMark x.marks m } := if_pos ((room_iff c x).mpr h)

theorem markClip_full {c : Catalogue} {x : Clip} (m : Mark) (h : 16 ≤ x.marks.length ∨ 256 ≤ c.poolSize) :
    c.markClip m x = { x with marks := replaceShock x.marks m, truncated := true } :=
  if_neg (by simpa using (not_room_iff c x).mpr h)

theorem markUser_local : State.Local markUser := by
  intro p b s x f
  unfold markUser
  simp only [State.take_catalogue, State.take_gateOpen, State.take_stamp]
  cases s.catalogue.openClip with
  | none => rfl
  | some y =>
    dsimp only
    split_ifs <;> cases p <;> rfl

theorem markRead_local : State.Local markRead := by
  intro p b s x f
  unfold markRead
  simp only [State.take_catalogue]
  cases s.catalogue.clip (field b 0 4) with
  | none => split_ifs <;> rfl
  | some y =>
    dsimp only
    cases y.marks[field b 4 1]? <;> split_ifs <;> rfl

theorem markUser_closed {p : Port} {b : List Byte} {s : State} (h : s.catalogue.openClip = none) :
    markUser p b s = (s, .done .wrongState []) := by
  simp only [markUser, h]

theorem markUser_opened {p : Port} {b : List Byte} {s : State} {x : Clip} {m : Mark} (h : s.catalogue.openClip = some x)
    (hm : m = { kind := .user, time := s.stamp, peak := none, band := s.wheel.band }) : markUser p b s =
      if s.store.gate = .closed then (s, .done .gateClosed [])
      else if 16 ≤ x.marks.length ∨ 256 ≤ s.catalogue.poolSize then (s, .done .full [])
      else ({ s with catalogue := s.catalogue.onClip x.number fun y => { y with marks := insertMark y.marks m } },
        .done .ok (beBytes 4 x.number ++ beBytes 1 (markIndex x.marks m) ++ encStamp m.time)) := by
  subst hm
  simp only [markUser, h, State.not_gateOpen_iff, not_room_iff]

theorem badMark_iff (n i : Nat) : (!clipNumberOk n || decide (15 < i)) = true ↔ n = 0 ∨ n = 4294967295 ∨ 15 < i := by
  rw [Bool.or_eq_true, not_clipNumberOk_iff, decide_eq_true_eq, or_assoc]

/-- Settles O34. -/
theorem marks : Obligations.Marks := by
  refine ⟨fun p f s hadm => ⟨fun hopen => ?_, fun x m hopen hm => ?_⟩, fun p f n i s hadm hn hi => ?_, insertMark_split,
    fun c m x hlen hpool => markClip_room m ⟨hlen, hpool⟩, fun c m x hfull => ⟨fun hno => ?_, fun i h hkind hmin => ?_⟩⟩
  · exact State.doRequest_local markUser_local hadm (markUser_closed hopen)
  · refine (State.doRequest_concluded markUser_local hadm).trans (congrArg _ ?_)
    rw [markUser_opened hopen hm]
    split_ifs <;> rfl
  · subst hn hi
    refine (State.doRequest_concluded markRead_local hadm).trans (congrArg _ ?_)
    unfold markRead
    simp only [badMark_iff]
    cases s.catalogue.clip (field f.body 0 4) with
    | none => split_ifs <;> rfl
    | some y =>
      dsimp only
      cases y.marks[field f.body 4 1]? <;> split_ifs <;> rfl
  · rw [markClip_full m hfull, replaceShock, lowestShock_none 0 hno]
  · rw [markClip_full m hfull, replaceShock, lowestShock_eq 0 h hkind hmin, Nat.zero_add]

end Sys2Proof.Machine

/-! # Shock events and crash events -/

namespace Sys2Proof.Machine

/-! ### The records a crash protects (R105 to R107) -/

section
variable {c : Catalogue}

theorem openClip_eq {x : Clip} (hc : c.Ok) (hx : x ∈ c.clips) (hst : x.state = .opened) : c.openClip = some x := by
  obtain ⟨y, hy⟩ := Option.isSome_iff_exists.mp ((Catalogue.openClip_isSome_iff c).mpr ⟨x, hx, hst⟩)
  obtain ⟨hmem, hyst⟩ := Catalogue.openClip_mem hy
  obtain ⟨-, -, -, -, -, hone, -⟩ := hc
  have hxf : x ∈ c.clips.filter fun z => z.state = .opened := List.mem_filter.mpr ⟨hx, by simp [hst]⟩
  have hyf : y ∈ c.clips.filter fun z => z.state = .opened := List.mem_filter.mpr ⟨hmem, by simp [hyst]⟩
  rw [hy]
  cases hl : c.clips.filter fun z => z.state = .opened with
  | nil => simp [hl] at hxf
  | cons z zs =>
    rw [hl] at hone hxf hyf
    obtain rfl : zs = [] := List.length_eq_zero_iff.mp (by simpa using hone)
    rw [List.mem_singleton.mp hxf, List.mem_singleton.mp hyf]

/-- The last of records in ascending order has the greatest number. -/
theorem number_le_getLast {l : List Clip} (hpw : l.Pairwise fun x y => x.number < y.number) {z : Clip}
    (hz : l.getLast? = some z) : ∀ y ∈ l, y.number ≤ z.number := by
  obtain ⟨init, rfl⟩ := List.getLast?_eq_some_iff.mp hz
  intro y hy
  rcases List.mem_append.mp hy with hy | hy
  · exact Nat.le_of_lt ((List.pairwise_append.mp hpw).2.2 y hy z (List.mem_singleton.mpr rfl))
  · rw [List.mem_singleton.mp hy]

theorem getLast_eq {x : Clip} (hc : c.Ok) (hx : x ∈ c.clips) (hmax : ∀ y ∈ c.clips, y.number ≤ x.number) :
    c.clips.getLast? = some x := by
  obtain ⟨-, hpw, -⟩ := id hc
  cases hl : c.clips.getLast? with
  | none =>
    rw [List.getLast?_eq_none_iff.mp hl] at hx
    cases hx
  | some z =>
    have hz : z ∈ c.clips := List.mem_of_getLast? hl
    have hle := number_le_getLast hpw hl x hx
    have hge := hmax z hz
    exact congrArg some (Catalogue.eq_of_number hc hz hx (by omega))

/-- R85: the predecessor has the next lower number. -/
theorem predecessor_iff {n : Nat} {y : Clip} (hc : c.Ok) (hy : y ∈ c.clips) :
    (∃ z, c.predecessor n = some z ∧ y.number = z.number)
      ↔ y.number < n ∧ ∀ z ∈ c.clips, z.number < n → z.number ≤ y.number := by
  obtain ⟨-, hpw, -⟩ := id hc
  have hpw' : (c.clips.filter fun x => x.number < n).Pairwise fun x y => x.number < y.number := hpw.filter _
  constructor
  · rintro ⟨z, hz, hnum⟩
    have hmem := List.mem_filter.mp (List.mem_of_getLast? hz)
    refine ⟨by simpa [hnum] using hmem.2, fun w hw hlt => ?_⟩
    rw [hnum]
    exact number_le_getLast hpw' hz w (List.mem_filter.mpr ⟨hw, by simpa using hlt⟩)
  · rintro ⟨hlt, hmax⟩
    have hyf : y ∈ c.clips.filter fun x => x.number < n := List.mem_filter.mpr ⟨hy, by simpa using hlt⟩
    cases hl : c.predecessor n with
    | none =>
      rw [List.getLast?_eq_none_iff.mp hl] at hyf
      cases hyf
    | some z =>
      have hz := List.mem_filter.mp (List.mem_of_getLast? hl)
      have hle := hmax z hz.1 (by simpa using hz.2)
      have hge := number_le_getLast hpw' hl y hyf
      exact ⟨z, rfl, by omega⟩

/-- R105: whether a crash with clip `n` OPEN protects a record. -/
def Catalogue.protects (c : Catalogue) (n : Nat) (y : Clip) : Bool :=
  decide (y.state ≠ .recycling) && (decide (y.number = n) || (c.predecessor n).any fun z => y.number = z.number)

theorem protects_iff {n : Nat} {y : Clip} (hc : c.Ok) (hy : y ∈ c.clips) : c.protects n y = true ↔
    y.state ≠ .recycling ∧ (y.number = n ∨ (y.number < n ∧ ∀ z ∈ c.clips, z.number < n → z.number ≤ y.number)) := by
  rw [← predecessor_iff hc hy]
  simp [Catalogue.protects, Option.any_eq_true]

theorem crashProtect_eq_ite (y : Clip) :
    y.crashProtect = if y.state ≠ .recycling then { y with protection := .crash } else y := by
  rw [Clip.crashProtect]
  split_ifs <;> simp_all

/-- R105: protecting the OPEN record and its predecessor, as one change of each record. -/
theorem protect_both {n : Nat} {z : Clip} (hpred : c.predecessor n = some z) :
    ((c.onClip n Clip.crashProtect).onClip z.number Clip.crashProtect).clips
      = c.clips.map fun y => if c.protects n y then { y with protection := .crash } else y := by
  have hz : z.number < n := by simpa using (List.mem_filter.mp (List.mem_of_getLast? hpred)).2
  simp only [Catalogue.onClip, List.map_map]
  refine List.map_congr_left fun y _ => ?_
  have hnum : y.crashProtect.number = y.number := (Catalogue.crashProtect_same y).1
  simp only [Function.comp_apply, Catalogue.protects, hpred, Option.any_some]
  by_cases hn : y.number = n
  · rw [if_pos hn, hnum, if_neg (by omega), crashProtect_eq_ite]
    simp [hn]
  · rw [if_neg hn, crashProtect_eq_ite]
    by_cases hyz : y.number = z.number
    · simp [hyz]
    · simp [hyz, hn]

theorem protect_one {n : Nat} (hpred : c.predecessor n = none) :
    (c.onClip n Clip.crashProtect).clips
      = c.clips.map fun y => if c.protects n y then { y with protection := .crash } else y := by
  refine List.map_congr_left fun y _ => ?_
  rw [crashProtect_eq_ite]
  by_cases hn : y.number = n <;> simp [Catalogue.protects, hpred, hn]

end

namespace State

theorem crashProtect_closed {s : State} (start : Tick) (h : s.store.gate = .closed) :
    s.crashProtect start = (s, none) := if_pos ((not_gateOpen_iff s).mpr h)

theorem not_not_gateOpen {s : State} (h : s.store.gate = .opened) : ¬ (!s.gateOpen) = true := by
  simp [gateOpen, h]

/-- R105: with a clip OPEN, it and its predecessor are protected. -/
theorem crashProtect_opened {s : State} {x : Clip} (start : Tick) (h : s.store.gate = .opened)
    (hx : s.catalogue.openClip = some x) : s.crashProtect start
      = (s.mapClips fun y => if s.catalogue.protects x.number y then { y with protection := .crash } else y,
        some x.number) := by
  unfold crashProtect
  dsimp only
  rw [if_neg (not_not_gateOpen h), hx]
  dsimp only
  cases hpred : s.catalogue.predecessor x.number with
  | none =>
    have hclips := protect_one hpred
    dsimp only
    rw [mapClips, ← hclips]
    rfl
  | some z =>
    have hclips := protect_both hpred
    dsimp only
    rw [mapClips, ← hclips]
    rfl

theorem crashProtect_empty {s : State} (start : Tick) (h : s.catalogue.clips = []) : s.crashProtect start = (s, none) := by
  unfold crashProtect
  simp [h, Catalogue.openClip]

/-- R106: with none OPEN, the newest record when it qualifies. -/
theorem crashProtect_newest {s : State} {x : Clip} (start : Tick) (h : s.store.gate = .opened)
    (hnone : s.catalogue.openClip = none) (hlast : s.catalogue.clips.getLast? = some x) : s.crashProtect start
      = if s.qualifies start x then
          ({ s with catalogue := s.catalogue.onClip x.number Clip.crashProtect }, some x.number)
        else (s, none) := by
  unfold crashProtect
  dsimp only
  rw [if_neg (not_not_gateOpen h), hnone, hlast]

end State

/-! ### Which record qualifies -/

/-- R2: two distances of the same ticks together go once round, or both are 0. -/
theorem dist_round (a b : Tick) : dist a b + dist b a = 2 ^ 48 ∨ (dist a b = 0 ∧ dist b a = 0) := by
  have ha := a.isLt
  have hb := b.isLt
  simp only [dist, BitVec.toNat_sub]
  omega

theorem span_le_iff (a b : Tick) : span a b ≤ 10485760 ↔ dist a b ≤ 10485760 ∨ dist b a ≤ 10485760 := by
  have hround := dist_round a b
  simp only [span, atOrAfter, decide_eq_true_eq]
  split_ifs <;> omega

theorem qualifies_iff (s : State) (start : Tick) (x : Clip) : s.qualifies start x = true ↔
    (x.state = .closed ∨ x.state = .cut) ∧ (∃ e ∈ x.ending, e.epoch = s.store.epoch
      ∧ (dist e.tick start ≤ 10485760 ∨ dist start e.tick ≤ 10485760
        ∨ (x.state = .closed ∧ e.tick = s.tick))) := by
  unfold State.qualifies State.justClosed
  cases hx : x.ending with
  | none => simp
  | some e =>
    simp only [Bool.and_eq_true, Bool.or_eq_true, decide_eq_true_eq, span_le_iff, Option.some.injEq, or_assoc,
      Option.mem_def, exists_eq_left']
    refine and_congr_right fun _ => and_congr_right fun hepoch => or_congr_right (or_congr_right (and_congr_right fun _ => ?_))
    cases e
    simp_all [State.stamp]

/-! ### Marks of a crash, and the crash check -/

namespace State

theorem shockMark_opened {s : State} {x : Clip} {m : Mark} (start : Tick) (peak : Nat) (band : Fin 4)
    (hx : s.catalogue.openClip = some x)
    (hm : m = { kind := .shock, time := { epoch := s.store.epoch, tick := start }, peak := some peak, band := band }) :
    s.shockMark start peak band = if s.store.gate = .closed then s else
      s.mapClips fun y => if y.number = x.number then s.catalogue.markClip m y else y := by
  subst hm
  simp only [shockMark, hx]
  cases h : s.store.gate with
  | opened => exact (if_pos ((gateOpen_iff s).mpr h)).trans (if_neg (by simp)).symm
  | closed => exact (if_neg (by simp [gateOpen_of_closed h])).trans (if_pos rfl).symm

theorem shockMark_none {s : State} (start : Tick) (peak : Nat) (band : Fin 4) (hx : s.catalogue.openClip = none) :
    s.shockMark start peak band = s := by
  simp only [shockMark, hx]

theorem crashCheck_short {s : State} {w : Watch} (hw : s.motion.watch = some w) (h : w.run < 2048) :
    s.crashCheck = s := by
  simp only [crashCheck, hw]
  exact if_neg (Nat.not_le.mpr h)

theorem crashCheck_found {s : State} {w : Watch} (hw : s.motion.watch = some w) (h : 2048 ≤ w.run) :
    s.crashCheck = s.crashEvent w := by
  simp only [crashCheck, hw]
  exact if_pos h

end State

/-- Settles O35. -/
theorem shockAndCrashEvents : Obligations.ShockAndCrashEvents := by
  refine ⟨fun start s hok => ⟨fun h => State.crashProtect_closed start h, fun x hx hgate hst => ?_,
      fun h => State.crashProtect_empty start h, fun x hx hgate hnone hmax => ?_⟩,
    fun start peak band x m s hx hm => State.shockMark_opened start peak band hx hm,
    fun start peak band s hx => State.shockMark_none start peak band hx, fun start peak n m s hm => ⟨rfl, ?_⟩,
    fun w s hw => ⟨fun h => State.crashCheck_short hw h, fun h => ⟨_, _, rfl, ?_⟩⟩⟩
  · exact ⟨s.catalogue.protects x.number, fun y hy => protects_iff hok hy,
      State.crashProtect_opened start hgate (openClip_eq hok hx hst)⟩
  · have hopen : s.catalogue.openClip = none := (Catalogue.openClip_none_iff _).mpr hnone
    rw [State.crashProtect_newest start hgate hopen (getLast_eq hok hx hmax), ← qualifies_iff]
    refine ⟨fun hq => ?_, fun hq => if_neg hq⟩
    have hlive : x.state ≠ .recycling := by
      rcases ((qualifies_iff s start x).mp hq).1 with h | h <;> simp [h]
    have hmap : s.catalogue.onClip x.number Clip.crashProtect = { s.catalogue with
        clips := s.catalogue.clips.map fun y => if y.number = x.number then { y with protection := .crash } else y } := by
      refine congrArg (fun l => { s.catalogue with clips := l }) (List.map_congr_left fun y hy => ?_)
      by_cases hn : y.number = x.number
      · have heq := Catalogue.eq_of_number hok hy hx hn
        rw [if_pos hn, if_pos hn, crashProtect_eq_ite, if_pos (by rwa [heq])]
      · rw [if_neg hn, if_neg hn]
    rw [if_pos hq, hmap]
  · subst hm
    rfl
  · rw [State.crashCheck_found hw h]
    rfl

end Sys2Proof.Machine

/-! # The Retained Store: supply, comparator, POR -/

namespace Sys2Proof.Machine

/-- Settles O36. -/
theorem supplyLossAndGate : Obligations.SupplyLossAndGate := by
  refine fun s => ⟨fun hv => ?_, fun hv => congrArg _ (if_neg (by simp [hv])), fun hv hc => ?_, fun hv hc hst => ?_,
    fun hv hc hst => ?_⟩
  · dsimp only [exec, execVsysLoss]
    rw [State.whenPowered_on _ hv]
  · dsimp only [exec, execComparatorFall]
    rw [State.event_taken _ hv (by simp [hc])]
  · dsimp only [exec, execComparatorRise]
    rw [State.event_taken _ hv (by simp [hc]), if_neg hst]
  · dsimp only [exec, execComparatorRise]
    rw [State.event_taken _ hv (by simp [hc]), if_pos hst]

/-- Settles O50, by evaluating the invariants at reset. -/
theorem resetIsSound : Obligations.ResetIsSound := by
  unfold Obligations.ResetIsSound
  refine ⟨?_, ?_, ?_, ?_, ?_, ?_, ?_, ?_, ?_, ?_, ?_⟩ <;> decide

/-! ### POR -/

theorem comparatorAt_high {v : Nat} (h : 3100 < v) : comparatorAt v = .high := if_pos h

theorem comparatorAt_low {v : Nat} (h : v ≤ 3100) : comparatorAt v = .low := if_neg (Nat.not_lt.mpr h)

theorem recover_none {c : Catalogue} (cut : Option CutRec) (h : c.openClip = none) : recover c cut = (c, cut) := by
  simp only [recover, h]

theorem recover_some {c : Catalogue} {x : Clip} (cut : Option CutRec) (h : c.openClip = some x) :
    recover c cut = (c.cutOpen x .unsealed x.start, some (unsealedCut x)) := by
  simp only [recover, h]

theorem storeAtPor_clear {s : State} (v : Nat) (h : s.store.latch = false) : storeAtPor s v
    = (Catalogue.initial, { vsys := true, latch := true, epoch := 0, cut := none, cause := .lost
                            comparator := comparatorAt v, gate := gateAt (comparatorAt v) }) :=
  if_neg (by simp [h])

theorem storeAtPor_set {s : State} (v : Nat) (h : s.store.latch = true) : storeAtPor s v
    = ((recover s.catalogue s.store.cut).1,
      { vsys := true, latch := true, epoch := s.store.epoch + 1, cut := (recover s.catalogue s.store.cut).2
        cause := if (recover s.catalogue s.store.cut).2.isSome then .cutPresent else .intact
        comparator := comparatorAt v, gate := gateAt (comparatorAt v) }) :=
  if_pos h

theorem storeAtPor_levels (s : State) (v : Nat) : (storeAtPor s v).2.vsys = true ∧ (storeAtPor s v).2.latch = true
    ∧ (storeAtPor s v).2.comparator = comparatorAt v ∧ (storeAtPor s v).2.gate = gateAt (comparatorAt v) := by
  cases h : s.store.latch with
  | true => rw [storeAtPor_set v h]; exact ⟨rfl, rfl, rfl, rfl⟩
  | false => rw [storeAtPor_clear v h]; exact ⟨rfl, rfl, rfl, rfl⟩

theorem raise_recovery_atPor : PortState.atPor.raise .recovery = State.reset.portB := by decide

theorem raise_recovery {s : State} (h : s.portB = PortState.atPor) :
    s.raise .recovery = { s with portB := State.reset.portB } := by
  rw [← raise_recovery_atPor, ← h]
  rfl

theorem por_rest (s : State) (v : Nat) (l : Level) : s.por v l = { State.reset with
    catalogue := (storeAtPor s v).1, store := (storeAtPor s v).2
    qualifier := { raw := l, qualified := l, change := none }, pending := s.pending } :=
  raise_recovery rfl

/-- Settles O37: the rest of the part is `State.reset`'s, and the store's work is by the latch and the OPEN clip. -/
theorem powerOnReset : Obligations.PowerOnReset := by
  intro v l s
  obtain ⟨hvsys, hlatch, hcomp, hgate⟩ := storeAtPor_levels s v
  refine ⟨s.por v l, rfl, por_rest s v l, hvsys, hlatch, fun h => ⟨hcomp.trans (comparatorAt_high h), ?_⟩,
    fun h => ⟨hcomp.trans (comparatorAt_low h), ?_⟩, fun h => ?_, fun h => ?_⟩
  · exact hgate.trans (congrArg gateAt (comparatorAt_high h))
  · exact hgate.trans (congrArg gateAt (comparatorAt_low h))
  · rw [por_rest, storeAtPor_clear v h]
    exact ⟨rfl, rfl, rfl, rfl⟩
  · rw [por_rest, storeAtPor_set v h]
    refine ⟨by simp [BitVec.toNat_add], fun hnone => ?_, fun x hx => ?_⟩
    · rw [recover_none _ hnone]
      exact ⟨rfl, rfl, rfl⟩
    · rw [recover_some _ hx]
      exact ⟨rfl, rfl, _, rfl, rfl⟩

end Sys2Proof.Machine

/-! # The Retained Store: the seal and the recovery requests -/

namespace Sys2Proof.Machine

theorem closesGate_iff {cause : CutCause} (h : cause ≠ .unsealed) : cause.closesGate = true ↔ cause ≠ .forced := by
  cases cause with
  | unsealed => exact absurd rfl h
  | holdExpired => decide
  | hardCut => decide
  | forced => decide

namespace State

/-- R134, step 4: the gate a seal leaves. -/
theorem closeGate_eq {t : State} {cause : CutCause} {gate : Gate} (h : cause ≠ .unsealed)
    (hgate : gate = if cause = .forced then t.store.gate else .closed) :
    (if cause.closesGate then { t with store := { t.store with gate := .closed } } else t)
      = { t with store := { t.store with gate := gate } } := by
  subst hgate
  by_cases hf : cause = .forced
  · rw [if_neg (fun hc => (closesGate_iff h).mp hc hf), if_pos hf]
  · rw [if_pos ((closesGate_iff h).mpr hf), if_neg hf]

theorem seal_none {s : State} {cause : CutCause} {gate : Gate} (h : cause ≠ .unsealed)
    (hgate : gate = if cause = .forced then s.store.gate else .closed) (hx : s.catalogue.openClip = none) :
    s.seal cause = { s with store := { s.store with gate := gate } } := by
  unfold State.seal
  rw [hx]
  exact closeGate_eq h hgate

theorem seal_some {s : State} {x : Clip} {cause : CutCause} {gate : Gate} (h : cause ≠ .unsealed)
    (hgate : gate = if cause = .forced then s.store.gate else .closed) (hx : s.catalogue.openClip = some x) :
    s.seal cause = { s.cutClip x cause with store := { (s.cutClip x cause).store with gate := gate } } := by
  unfold State.seal
  rw [hx]
  exact closeGate_eq (t := s.cutClip x cause) h hgate

end State

theorem recoveryRead_local : State.Local recoveryRead := by
  intro p b s x f
  unfold recoveryRead
  rw [State.take_store]

theorem recoveryClear_local : State.Local recoveryClear := by
  intro p b s x f
  unfold recoveryClear
  simp only [State.take_store, State.take_gateOpen]
  cases s.store.cut <;> dsimp only <;> split_ifs <;> cases p <;> rfl

/-- Settles O38. -/
theorem sealAndRecovery : Obligations.SealAndRecovery := by
  refine ⟨fun cause gate s hc hgate => ⟨fun hx => State.seal_none hc hgate hx, fun x now t hx hnow ht => ?_⟩,
    fun p f s hadm => ?_, fun p f n s hadm hn => ?_⟩
  · subst hnow ht
    rw [State.seal_some hc hgate hx]
    rfl
  · refine (State.doRequest_concluded recoveryRead_local hadm).trans ?_
    dsimp only [recoveryRead]
    cases s.store.cut <;> rfl
  · subst hn
    refine (State.doRequest_concluded recoveryClear_local hadm).trans (congrArg _ ?_)
    unfold recoveryClear
    cases s.store.cut with
    | none =>
      simp only [not_clipNumberOk_iff]
      split_ifs <;> rfl
    | some c =>
      simp only [not_clipNumberOk_iff, State.not_gateOpen_iff]
      split_ifs <;> rfl

end Sys2Proof.Machine

/-! # The media rail going off -/

namespace Sys2Proof.Machine

/-- R80: the frame block after the media rail has gone off. -/
def Frames.railOff (f : Frames) : Frames :=
  if f.state = .idle then { f with queue := [] } else { f with state := .idle, cur := none, bands := [], queue := [] }

theorem Frames.railOff_idle {f : Frames} (h : f.state = .idle) : f.railOff = { f with queue := [] } := if_pos h

theorem Frames.railOff_running {f : Frames} (h : f.state ≠ .idle) :
    f.railOff = { f with state := .idle, cur := none, bands := [], queue := [] } := if_neg h

/-- R62: the FTRIG generator after FRAME_STOP. -/
def State.ftrigStopped (s : State) : Generator := if s.frames.state = .idle then s.ftrig else s.ftrig.stop

theorem Generator.stop_off {g : Generator} (h : g.running = true) : g.stop.output = .low ∧ g.stop.staged = none := by
  simp [Generator.stop, h]

namespace State

theorem ftrigStopped_idle {s : State} (h : s.frames.state = .idle) : s.ftrigStopped = s.ftrig := if_pos h

theorem ftrigStopped_running {s : State} (h : s.frames.state ≠ .idle) : s.ftrigStopped = s.ftrig.stop := if_neg h

theorem railDown_eq (s : State) : s.railDown = { s with
    supply := { s.supply with rail := .off, ramp := none }, charge := { s.charge with cls := 0 }
    ftrig := s.ftrigStopped, frames := s.frames.railOff } := by
  unfold railDown frameRailOff frameStop
  by_cases h : s.frames.state = .idle
  · rw [ftrigStopped_idle h, Frames.railOff_idle h]
    dsimp only
    rw [if_pos h]
  · rw [ftrigStopped_running h, Frames.railOff_running h]
    dsimp only
    rw [if_neg h]

/-- R193: what the abandonment of Port A's slot touches. -/
theorem abandon_a_eq (s : State) : s.abandon .a = { s with
    portA := s.portA.change .empty, pairA := (s.abandon .a).pairA
    link := { s.link with queue := (s.abandon .a).link.queue } } := by
  unfold abandon
  dsimp only
  split
  · split <;> rfl
  · rfl

theorem abandon_a_working {s : State} {k : Byte} {n : Nat} (h : s.portA.slot = .working k n) :
    (s.abandon .a).pairA = (if s.pairA.armed = some n then { armed := none, timeout := none } else s.pairA)
    ∧ (s.abandon .a).link.queue = s.link.queue.filter fun y => decide (y.ticket ≠ { port := .a, taking := n }) := by
  have hne (t : Ticket) : (t != ({ port := .a, taking := n } : Ticket)) = decide (t ≠ { port := .a, taking := n }) := by
    rw [Bool.eq_iff_iff, bne_iff_ne, decide_eq_true_iff]
  have hslot : (s.port .a).slot = .working k n := h
  simp only [abandon, hslot, hne]
  by_cases ha : s.pairA.armed = some n
  · have ha' : ((s.setPort .a ((s.port .a).change .empty)).pair .a).armed = some n := ha
    rw [if_pos ha, if_pos ha']
    exact ⟨rfl, rfl⟩
  · have ha' : ((s.setPort .a ((s.port .a).change .empty)).pair .a).armed ≠ some n := ha
    rw [if_neg ha, if_neg ha']
    exact ⟨rfl, rfl⟩

theorem abandon_a_idle {s : State} (h : s.portA.slot.state ≠ .working) :
    (s.abandon .a).pairA = s.pairA ∧ (s.abandon .a).link.queue = s.link.queue := by
  unfold abandon
  dsimp only
  split
  case h_1 k n hslot => exact absurd (congrArg Slot.state hslot) h
  case h_2 => exact ⟨rfl, rfl⟩

/-- R155: the blocks the media rail's going off reaches. -/
theorem railEffects_blocks (s : State) : s.railEffects = { s with
    supply := { s.supply with rail := .off, ramp := none }, charge := { s.charge with cls := 0 }
    ftrig := s.ftrigStopped, frames := s.frames.railOff, portA := s.portA.change .empty
    pairA := s.railEffects.pairA, link := { s.link with queue := s.railEffects.link.queue } } := by
  have h := abandon_a_eq s.railDown
  rw [← railEffects_eq, railDown_eq] at h
  exact h

theorem railEffects_working_a {s : State} {k : Byte} {n : Nat} (h : s.portA.slot = .working k n) :
    s.railEffects.pairA = (if s.pairA.armed = some n then { armed := none, timeout := none } else s.pairA)
    ∧ s.railEffects.link.queue = s.link.queue.filter fun y => decide (y.ticket ≠ { port := .a, taking := n }) := by
  rw [railEffects_eq, railDown_eq]
  exact abandon_a_working h

theorem railEffects_idle_a {s : State} (h : s.portA.slot.state ≠ .working) :
    s.railEffects.pairA = s.pairA ∧ s.railEffects.link.queue = s.link.queue := by
  rw [railEffects_eq, railDown_eq]
  exact abandon_a_idle h

/-! ### The ramp's request -/

theorem railOwner_on {s : State} (h : s.supply.rail = .on) : s.railOwner = none := by
  simp only [railOwner, h]

theorem railOwner_ramping {s : State} {t : Ticket} {k : Byte} (h : s.supply.rail = .ramping t)
    (hslot : (s.port t.port).slot = .working k t.taking) : s.railOwner = some t := by
  simp only [railOwner, h, inFlight, hslot, decide_true, if_true]

theorem railGoesOff_off {s : State} (st : Option Status) (h : s.supply.rail = .off) : s.railGoesOff st = s := if_pos h

theorem railGoesOff_owned {s : State} {t : Ticket} (x : Status) (h : s.supply.rail ≠ .off) (ht : s.railOwner = some t) :
    s.railGoesOff (some x) = s.railEffects.finish t.port (reply x .railOn []) := by
  unfold railGoesOff
  rw [if_neg h, ht]
  rfl

theorem railGoesOff_alone {s : State} (st : Option Status) (h : s.supply.rail ≠ .off) (ht : s.railOwner = none) :
    s.railGoesOff st = s.railEffects := by
  unfold railGoesOff
  rw [if_neg h, ht]

/-- R153, R155: the rail's going off and, over it, the answer of the ramp's RAIL_ON. -/
theorem railGoesOff_blocks {s t : State} {x : Status} (h : s.supply.rail ≠ .off) (ht : t = s.railGoesOff (some x)) :
    t = { s.railEffects with portA := t.portA, portB := t.portB }
    ∧ t.portA = { s.portA with slot := t.portA.slot, earlier := t.portA.earlier }
    ∧ t.portB = { s.portB with slot := t.portB.slot, earlier := t.portB.earlier } := by
  subst ht
  cases hown : s.railOwner with
  | none =>
    rw [railGoesOff_alone _ h hown, railEffects_blocks]
    exact ⟨rfl, rfl, rfl⟩
  | some k =>
    rw [railGoesOff_owned x h hown, railEffects_blocks]
    unfold finish
    cases k.port <;> exact ⟨rfl, rfl, rfl⟩

end State

end Sys2Proof.Machine

/-! # The media rail: its requests and events -/

namespace Sys2Proof.Machine

theorem canPower_eq_false_iff (x : Supply) : x.canPower = false ↔
    x.input = .absent ∧ ∀ m ∈ x.table, m.vbat < x.settings.vStart := by
  unfold Supply.canPower
  cases x.input <;> cases x.table <;> simp

theorem flagAt_eq_decide (b : List Byte) (i : Nat) : flagAt b i = decide (field b i 1 ≠ 0) := by
  rw [Bool.eq_iff_iff, flagAt, bne_iff_ne, decide_eq_true_iff, field_one, ne_eq, ne_eq, not_iff_not, BitVec.toNat_eq]
  rfl

namespace State

/-- R152, out of NORMAL, already on, or ramping. -/
theorem railOn_wrongState {s : State} (pg : Level) (p : Port) (b : List Byte) (h : s.supply.state ≠ .normal) :
    Machine.railOn pg p b s = (s, .done .wrongState []) := if_pos h

theorem railOn_on {s : State} (pg : Level) (p : Port) (b : List Byte) (h : s.supply.state = .normal)
    (hr : s.supply.rail = .on) : Machine.railOn pg p b s = (s, .done .ok [2]) := by
  unfold Machine.railOn
  rw [if_neg (not_not_intro h), hr]
  rfl

theorem railOn_ramping {s : State} {t : Ticket} (pg : Level) (p : Port) (b : List Byte) (h : s.supply.state = .normal)
    (hr : s.supply.rail = .ramping t) : Machine.railOn pg p b s = (s, .done .wrongState []) := by
  unfold Machine.railOn
  rw [if_neg (not_not_intro h), hr]

/-- R152, with the rail off: the battery, then MRAIL_PG. -/
theorem railOn_off {s : State} (pg : Level) (p : Port) (b : List Byte) (h : s.supply.state = .normal)
    (hr : s.supply.rail = .off) : Machine.railOn pg p b s
      = if s.supply.canPower = false then (s, .done .lowBattery []) else s.startRail p pg := by
  unfold Machine.railOn
  rw [if_neg (not_not_intro h), hr]
  cases s.supply.canPower <;> rfl

theorem exec_railOn {p : Port} {f : Frame} {s : State} (pg : Level) (hadm : s.Admits p .railOn f) :
    exec (.railOn p f pg) s = .next (
      if s.supply.state ≠ .normal then s.replied p f (reply .wrongState .railOn [])
      else if s.supply.rail = .on then s.replied p f (reply .ok .railOn [2])
      else if s.supply.rail ≠ .off then s.replied p f (reply .wrongState .railOn [])
      else if s.supply.input = .absent ∧ (∀ m ∈ s.supply.table, m.vbat < s.supply.settings.vStart) then
        s.replied p f (reply .lowBattery .railOn [])
      else if pg = .high then ({ s with supply := { s.supply with rail := .on, ramp := none } }).replied p f
        (reply .ok .railOn [2])
      else { s.flying p .railOn f with supply := { s.supply with
        rail := .ramping { port := p, taking := (s.port p).takings + 1 }
        ramp := some (later s.tick 131072) } }) := by
  refine (doRequest_admitted _ hadm).trans ?_
  generalize ht : s.take p (Kind.code .railOn) f = t
  have hsup : t.supply = s.supply := ht ▸ take_supply ..
  by_cases hst : s.supply.state = .normal
  case neg =>
    rw [if_pos hst, railOn_wrongState _ _ _ (hsup ▸ hst), settle_done, ← ht, take_answer]
  rw [if_neg (not_not_intro hst)]
  cases hr : s.supply.rail with
  | on =>
    rw [if_pos rfl, railOn_on _ _ _ (hsup ▸ hst) (hsup ▸ hr), settle_done, ← ht, take_answer]
  | ramping k =>
    rw [if_neg (by simp), if_pos (by simp), railOn_ramping _ _ _ (hsup ▸ hst) (hsup ▸ hr), settle_done, ← ht, take_answer]
  | off =>
    rw [if_neg (by simp), if_neg (by simp), railOn_off _ _ _ (hsup ▸ hst) (hsup ▸ hr), hsup]
    simp only [← canPower_eq_false_iff]
    split_ifs with hpow hpg
    · rw [settle_done, ← ht, take_answer]
    · subst hpg ht
      cases p <;> rfl
    · obtain rfl : pg = .low := by cases pg <;> simp_all
      subst ht
      cases p <;> rfl

/-! ### RAIL_OFF -/

theorem railOff_badValue {b : List Byte} (p : Port) (s : State) (h : 1 < field b 0 1) :
    Machine.railOff p b s = (s, .done .badValue []) := if_pos h

theorem railOff_clipOpen {s : State} {b : List Byte} {x : Clip} (p : Port) (h : field b 0 1 = 0)
    (hx : s.catalogue.openClip = some x) : Machine.railOff p b s = (s, .done .clipOpen []) := by
  unfold Machine.railOff
  rw [if_neg (by omega), if_pos (by simp [hx, flagAt_eq_decide, h])]

theorem railOff_idle {s : State} {b : List Byte} (p : Port) (h : field b 0 1 ≤ 1) (hx : s.catalogue.openClip = none) :
    Machine.railOff p b s = (s.railGoesOff (some .wrongState), .done .ok [0]) := by
  unfold Machine.railOff State.railOff
  rw [if_neg (by omega), if_neg (by simp [hx]), hx]
  rfl

theorem railOff_sealed {s : State} {b : List Byte} {x : Clip} (p : Port) (h : field b 0 1 = 1)
    (hx : s.catalogue.openClip = some x) :
    Machine.railOff p b s = ((s.seal .forced).railGoesOff (some .wrongState), .done .ok [0]) := by
  unfold Machine.railOff State.railOff
  rw [if_neg (by omega), if_neg (by simp [flagAt_eq_decide, h]), hx]
  rfl

theorem flying_catalogue (s : State) (p : Port) (k : Kind) (f : Frame) :
    (s.flying p k f).catalogue = s.catalogue := by
  rw [flying, setPort_catalogue]

/-- A rule computed on the state that has taken the request. -/
theorem doRequest_flown {s u : State} {p : Port} {k : Kind} {f : Frame} {st : Status} {b : List Byte}
    {act : Port → List Byte → State → State × Reply} (hadm : s.Admits p k f)
    (hact : act p f.body (s.flying p k f) = (u, .done st b)) : s.doRequest k act p f = .next (u.answer p (reply st k b)) := by
  rw [doRequest_admitted act hadm, ← flying_eq_take, hact, settle_done]

theorem flying_answer (s : State) (p : Port) (k : Kind) (f : Frame) (a : Answer) :
    (s.flying p k f).answer p a = s.replied p f a := by
  rw [flying_eq_take, take_answer]

theorem exec_railOff {p : Port} {f : Frame} {s : State} (hadm : s.Admits p .railOff f) :
    (1 < field f.body 0 1 → exec (.railOff p f) s = .next (s.replied p f (reply .badValue .railOff [])))
    ∧ (∀ x : Clip, field f.body 0 1 = 0 → s.catalogue.openClip = some x →
      exec (.railOff p f) s = .next (s.replied p f (reply .clipOpen .railOff [])))
    ∧ (field f.body 0 1 ≤ 1 → s.catalogue.openClip = none → exec (.railOff p f) s
      = .next (((s.flying p .railOff f).railGoesOff (some .wrongState)).answer p (reply .ok .railOff [0])))
    ∧ (∀ x : Clip, field f.body 0 1 = 1 → s.catalogue.openClip = some x → exec (.railOff p f) s
      = .next ((((s.flying p .railOff f).seal .forced).railGoesOff (some .wrongState)).answer p
          (reply .ok .railOff [0]))) := by
  have hclip := flying_catalogue s p .railOff f
  refine ⟨fun h => ?_, fun x h hx => ?_, fun h hx => ?_, fun x h hx => ?_⟩
  · rw [← flying_answer]
    exact doRequest_flown hadm (railOff_badValue p _ h)
  · rw [← flying_answer]
    exact doRequest_flown hadm (railOff_clipOpen p h (hclip ▸ hx))
  · exact doRequest_flown hadm (railOff_idle p h (hclip ▸ hx))
  · exact doRequest_flown hadm (railOff_sealed p h (hclip ▸ hx))

end State

/-! ### The rail's events -/

theorem mrailPgRise_ramping {s : State} {t : Ticket} {k : Byte} (hv : s.store.vsys = true)
    (hr : s.supply.rail = .ramping t) (hslot : (s.port t.port).slot = .working k t.taking) :
    exec .mrailPgRise s = .next (({ s with supply := { s.supply with rail := .on, ramp := none } }).finish
        t.port { status := .ok, kind := k, body := [2] }) := by
  dsimp only [exec, execMrailPgRise]
  rw [State.whenPowered_on _ hv]
  simp only [State.railUp, hr]
  refine congrArg _ (State.complete_own _ _ ?_)
  cases hp : t.port <;> rw [hp] at hslot <;> exact hslot

theorem mrailPgRise_idle {s : State} (hv : s.store.vsys = true) (hr : s.supply.rail.isRamping = false) :
    exec .mrailPgRise s = .next s := by
  dsimp only [exec, execMrailPgRise]
  rw [State.whenPowered_on _ hv]
  cases hrail : s.supply.rail with
  | ramping t => simp [hrail, Rail.isRamping] at hr
  | off => simp only [State.railUp, hrail]
  | on => simp only [State.railUp, hrail]

/-! ### What the rail's going off leaves -/

namespace State

theorem railGoesOff_answers {s : State} {k : Ticket} {code : Byte} (x : Status) (hr : s.supply.rail = .ramping k)
    (hslot : (s.port k.port).slot = .working code k.taking) :
    ((s.railGoesOff (some x)).port k.port).slot = .answered (reply x .railOn [])
    ∧ (k.port = .b → (s.railGoesOff (some x)).portA.slot = .empty) := by
  rw [railGoesOff_owned x (by simp [hr]) (railOwner_ramping hr hslot), railEffects_blocks]
  unfold finish
  cases k.port with
  | a => exact ⟨rfl, fun h => absurd h (by decide)⟩
  | b => exact ⟨rfl, fun _ => rfl⟩

end State

/-- Settles O39. -/
theorem mediaRail : Obligations.MediaRail := by
  refine ⟨fun p f pg s hadm => State.exec_railOn pg hadm, fun p f s hadm => State.exec_railOff hadm, fun s hv =>
    ⟨fun t k hr hslot => mrailPgRise_ramping hv hr hslot, fun hr => mrailPgRise_idle hv hr, fun hd => ?_⟩,
    fun x s hr => State.railGoesOff_off x hr, fun x s t hr ht => ?_⟩
  · dsimp only [exec, execRampTimeout]
    rw [State.event_taken _ hv ((State.due_iff ..).mpr hd)]
  · obtain ⟨hblocks, hA, hB⟩ := State.railGoesOff_blocks hr ht
    have hon : s.supply.rail = .on → t = s.railEffects := fun h =>
      ht.trans (State.railGoesOff_alone _ hr (State.railOwner_on h))
    rw [State.railEffects_blocks] at hblocks hon
    have hsupply : t.supply = { s.supply with rail := .off, ramp := none } := by rw [hblocks]
    have hcharge : t.charge = { s.charge with cls := 0 } := by rw [hblocks]
    have hframes : t.frames = s.frames.railOff := by rw [hblocks]
    have hftrig : t.ftrig = s.ftrigStopped := by rw [hblocks]
    have hpair : t.pairA = s.railEffects.pairA := by rw [hblocks]
    have hqueue : t.link.queue = s.railEffects.link.queue := by rw [hblocks]
    refine ⟨?_, hsupply, by rw [hsupply]; rfl, hcharge, fun h => ?_, fun h => ?_, fun k n h => ?_, fun h => ?_,
      fun h => ?_, hA, hB, fun h => ?_, fun k code hk hslot => ?_⟩
    · rw [hsupply, hcharge, hframes, hftrig, hpair, hqueue]
      exact hblocks
    · exact ⟨hframes.trans (Frames.railOff_idle h), hftrig.trans (State.ftrigStopped_idle h)⟩
    · rw [hframes, Frames.railOff_running h, hftrig, State.ftrigStopped_running h]
      exact ⟨rfl, Generator.stop_running _, Generator.stop_off⟩
    · rw [hpair, hqueue]
      exact State.railEffects_working_a h
    · rw [hpair, hqueue]
      exact State.railEffects_idle_a h
    · rw [hon h]
      rfl
    · rw [hon h]
      exact ⟨rfl, rfl⟩
    · rw [ht]
      exact State.railGoesOff_answers x hk hslot

end Sys2Proof.Machine

/-! # The supply, gauge and charge reports -/

namespace Sys2Proof.Machine

theorem supplySet_local : State.Local supplySet := by
  intro p b s x f
  unfold supplySet
  dsimp only
  split_ifs <;> cases p <;> rfl

theorem supplyRead_local : State.Local supplyRead := by
  intro p b s x f
  cases p <;> rfl

theorem encLevel_rail (s : State) : encLevel s.link.rail
    = [if s.link.state = .powering ∨ s.link.state = .configuring ∨ s.link.state = .running then 1 else 0] := by
  unfold Link.rail
  cases s.link.state <;> rfl

/-- Settles O40. -/
theorem supplyRequests : Obligations.SupplyRequests := by
  refine ⟨fun p f x s hadm hx => ?_, fun p f s hadm => ?_⟩
  · subst hx
    refine (State.doRequest_concluded supplySet_local hadm).trans (congrArg _ ?_)
    unfold supplySet
    dsimp only
    split_ifs <;> rfl
  · refine (State.doRequest_concluded supplyRead_local hadm).trans ?_
    rw [← encLevel_rail]
    dsimp only [supplyRead]
    cases s.supply.table <;> cases s.supply.hold <;> simp [State.concluded, encOpt, SupplySettings.enc, encTick]

/-! ### The gauge -/

theorem gaugeSet_local : State.Local gaugeSet := by
  intro p b s x f
  cases p <;> rfl

theorem gaugeRead_local : State.Local gaugeRead := by
  intro p b s x f
  cases p <;> rfl

theorem chargeRead_local : State.Local chargeRead := by
  intro p b s x f
  cases p <;> rfl

theorem gauge_add_acc (ibat : Int) (g : Gauge) : ((g.add ibat).acc : Int)
    = max 0 (min ((g.capacity * 3774873600 : Nat) : Int) (g.acc + ibat * 1024)) := by
  refine (Int.toNat_of_nonneg ?_).trans rfl
  exact le_max_left ..

/-- Settles O48. -/
theorem gaugeAndReports : Obligations.GaugeAndReports := by
  refine ⟨fun p f cap charge s hadm hcap hcharge => ?_, fun p f s hadm => ?_,
    fun ibat g => ⟨gauge_add_acc ibat g, rfl, rfl⟩, fun p f c s hadm hc => ?_⟩
  · subst hcap hcharge
    refine State.doRequest_local gaugeSet_local hadm ?_
    rw [← clamp_zero]
    rfl
  · exact State.doRequest_local gaugeRead_local hadm rfl
  · subst hc
    refine (State.doRequest_concluded chargeRead_local hadm).trans ?_
    dsimp only [chargeRead]
    cases s.charge.resume <;> cases s.charge.therm <;> cases s.charge.temp <;> cases s.charge.snapshot <;> rfl

end Sys2Proof.Machine

/-! # The Supply Monitor -/

namespace Sys2Proof.Machine

namespace State

/-! ### The input state -/

theorem chargeInput_present {s : State} (h : s.supply.input = .present) : s.chargeInput
    = if s.charge.state = .off ∧ s.charge.enable = true then s.toCharge .qualify else s := by
  simp only [chargeInput, h]

theorem chargeInput_absent {s : State} (h : s.supply.input = .absent) : s.chargeInput = s.toCharge .off := by
  simp only [chargeInput, h]

theorem inputBecomes_absent (s : State) : s.inputBecomes .absent = ({ s with supply := { s.supply with
    input := .absent, present := none, ride := none } }).raise .inputChanged := rfl

theorem inputBecomes_present_normal {s : State} (h : s.supply.state = .normal) :
    s.inputBecomes .present = ({ s with supply := { s.supply with
      input := .present, present := none, ride := none, debounce := none } }).raise .inputChanged :=
  if_pos h

theorem inputBecomes_present_other {s : State} {gate : Gate} (h : s.supply.state ≠ .normal)
    (hgate : gate = if s.supply.state = .shutdown ∧ s.store.comparator = .high then .opened else s.store.gate) :
    s.inputBecomes .present = (({ s with
      supply := { s.supply with
        input := .present, present := none, ride := none, debounce := none, state := .normal, pwrfail := .low
        hold := none }
      store := { s.store with gate := gate } }).raise .inputChanged).raise .supplyOk := by
  subst hgate
  exact if_neg h

/-! ### The supply states -/

/-- R147: the state in which a RAMPING rail then goes off. -/
def finishing (s : State) : State :=
  ({ s with supply := { s.supply with
      state := .finishing, pwrfail := .high, debounce := none
      hold := some (later s.tick s.supply.settings.hold) } }).raise .supplyLow

theorem enterFinishing_idle {s : State} (h : s.supply.rail.isRamping = false) : s.enterFinishing = s.finishing := by
  have hrail : s.finishing.supply.rail = s.supply.rail := rfl
  unfold enterFinishing
  dsimp only
  rw [← finishing, hrail]
  cases hr : s.supply.rail with
  | ramping t => simp [hr, Rail.isRamping] at h
  | off => rfl
  | on => rfl

theorem enterFinishing_ramping {s : State} (h : s.supply.rail.isRamping = true) :
    s.enterFinishing = s.finishing.railGoesOff (some .wrongState) := by
  have hrail : s.finishing.supply.rail = s.supply.rail := rfl
  unfold enterFinishing
  dsimp only
  rw [← finishing, hrail]
  cases hr : s.supply.rail with
  | ramping t => rfl
  | off => simp [hr, Rail.isRamping] at h
  | on => simp [hr, Rail.isRamping] at h

/-! ### The judgement -/

theorem judge_cut {s : State} {m : MeasTable} (first : Bool) (hst : s.supply.state ≠ .shutdown)
    (hin : s.supply.input = .absent) (h : m.vbat < s.supply.settings.vCut) : s.judge m first = s.hardCut :=
  if_pos ⟨hst, hin, h⟩

theorem judge_spared {s : State} {m : MeasTable} (first : Bool)
    (h : s.supply.input = .present ∨ s.supply.settings.vCut ≤ m.vbat ∨ s.supply.state = .shutdown) : s.judge m first =
      if s.supply.state = .normal then s.judgeNormal m first
      else if s.supply.settings.vStart ≤ m.vbat then s.supplyNormal else s := by
  unfold judge
  rw [if_neg]
  · cases s.supply.state <;> rfl
  · rintro ⟨hst, hin, hlow⟩
    rcases h with h | h | h
    · simp [hin] at h
    · omega
    · exact hst h

theorem judgeNormal_low {s : State} {m : MeasTable} (first : Bool) (hin : s.supply.input = .absent)
    (h : m.vbat < s.supply.settings.vWarn) : s.judgeNormal m first =
      if first || atOrAfter s.tick (s.dropoutTimer s.supply.debounce).due then s.enterFinishing
      else { s with supply := { s.supply with debounce := some (s.dropoutTimer s.supply.debounce) } } :=
  if_pos ⟨hin, h⟩

theorem judgeNormal_well {s : State} {m : MeasTable} (first : Bool)
    (h : s.supply.input = .present ∨ s.supply.settings.vWarn ≤ m.vbat) :
    s.judgeNormal m first = { s with supply := { s.supply with debounce := none } } := by
  refine if_neg ?_
  rintro ⟨hin, hlow⟩
  rcases h with h | h
  · simp [hin] at h
  · omega

theorem dropoutTimer_eq {s : State} {t : Option SpanTimer} {start : Tick} {span : Nat}
    (hstart : start = match t with | some t => t.start | none => s.tick)
    (hspan : span = if s.motion.episode.isSome then 4096 else 2048) :
    s.dropoutTimer t = { start := start, due := later start span } := by
  subst hstart hspan
  cases t <;> rfl

theorem hardCut_normal {s : State} (h : s.supply.state = .normal) : s.hardCut = (s.shutDown .hardCut).raise .supplyLow :=
  if_pos h

theorem hardCut_finishing {s : State} (h : s.supply.state = .finishing) : s.hardCut = s.shutDown .hardCut :=
  if_neg (by simp [h])

theorem supplyNormal_eq {s : State} {gate : Gate}
    (hgate : gate = if s.supply.state = .shutdown ∧ s.store.comparator = .high then .opened else s.store.gate) :
    s.supplyNormal = ({ s with
      supply := { s.supply with state := .normal, pwrfail := .low, hold := none }
      store := { s.store with gate := gate } }).raise .supplyOk := by
  subst hgate
  rfl

/-! ### The expiries -/

theorem presentQualified {s : State} (hv : s.store.vsys = true) (h : s.supply.present = some s.tick) :
    exec .presentQualificationExpiry s = .next ((s.inputBecomes .present).chargeInput) := by
  dsimp only [exec, execPresentQualificationExpiry]
  rw [event_taken _ hv ((due_iff ..).mpr h)]

theorem rideEnded {s : State} {t : SpanTimer} (hv : s.store.vsys = true) (h : s.supply.ride = some t)
    (hdue : t.due = s.tick) : exec .rideThroughExpiry s = .next ((({ s with supply := { s.supply with
          input := .absent, present := none, ride := none } }).raise .inputChanged).toCharge .off) := by
  dsimp only [exec, execRideThroughExpiry]
  rw [event_taken _ hv ((due_iff ..).mpr (by rw [h, ← hdue]; rfl)), inputBecomes_absent]
  exact congrArg _ (chargeInput_absent rfl)

theorem debounceEnded {s : State} {t : SpanTimer} (hv : s.store.vsys = true) (h : s.supply.debounce = some t)
    (hdue : t.due = s.tick) : exec .batteryLowDebounceExpiry s = .next s.enterFinishing := by
  dsimp only [exec, execBatteryLowDebounceExpiry]
  rw [event_taken _ hv ((due_iff ..).mpr (by rw [h, ← hdue]; rfl))]

theorem holdEnded {s : State} (hv : s.store.vsys = true) (h : s.supply.hold = some s.tick) :
    exec .holdExpiry s = .next (s.shutDown .holdExpired) := by
  dsimp only [exec, execHoldExpiry]
  rw [event_taken _ hv ((due_iff ..).mpr h)]

end State

/-- Settles O41. -/
theorem supplyStates : Obligations.SupplyStates := by
  refine ⟨fun s hv => ⟨State.presentQualified hv, fun t => State.rideEnded hv, fun t => State.debounceEnded hv,
      State.holdEnded hv⟩,
    fun s => ⟨fun hin hoff hen => ?_, fun hin hoff => ?_, State.chargeInput_absent⟩, State.inputBecomes_absent,
    fun s => State.inputBecomes_present_normal, fun gate s => State.inputBecomes_present_other,
    fun s => State.enterFinishing_idle, fun s => State.enterFinishing_ramping, fun cause s t ht => ?_,
    fun m first start span s hstart hspan => ⟨fun hin hlow => ⟨fun hst => ?_, fun hst => ?_⟩,
      fun hst hin hcut hwarn => ⟨fun h => ?_, fun hf h => ?_⟩, fun hst h => ?_, fun h => ⟨fun hlow => ?_,
        fun gate hstart hgate => ?_⟩⟩⟩
  · rw [State.chargeInput_present hin, if_pos ⟨hoff, hen⟩]
  · rw [State.chargeInput_present hin, if_neg]
    rintro ⟨hst, hen⟩
    rcases hoff with h | h
    · exact h hst
    · simp [hen] at h
  · subst ht
    rfl
  · rw [State.judge_cut first (by simp [hst]) hin hlow, State.hardCut_normal hst]
  · rw [State.judge_cut first (by simp [hst]) hin hlow, State.hardCut_finishing hst]
  · rw [State.judge_spared first (.inr (.inl hcut)), if_pos hst, State.judgeNormal_low first hin hwarn,
      State.dropoutTimer_eq hstart hspan, if_pos (by simpa using h)]
  · rw [State.judge_spared first (.inr (.inl hcut)), if_pos hst, State.judgeNormal_low first hin hwarn,
      State.dropoutTimer_eq hstart hspan, if_neg (by simp [hf, h])]
  · rw [State.judge_spared first (by tauto), if_pos hst, State.judgeNormal_well first (by tauto)]
  · rw [State.judge_spared first (by tauto), if_neg (by rcases h with h | ⟨h, -⟩ <;> simp [h]), if_neg (by omega)]
  · rw [State.judge_spared first (by tauto), if_neg (by rcases h with h | ⟨h, -⟩ <;> simp [h]), if_pos hstart,
      State.supplyNormal_eq hgate]

end Sys2Proof.Machine

/-! # The measurement round -/

namespace Sys2Proof.Machine

theorem roundDue_of {s : State} (ht : s.tick.toNat % 1024 = 512) (hold : ∀ old ∈ s.supply.table, old.tick ≠ s.tick) :
    s.roundDue = true := by
  unfold State.roundDue
  cases h : s.supply.table with
  | none => simp [ht]
  | some old => simpa [ht] using hold old h

namespace State

theorem applyInput_undecided {s : State} (m : MeasTable) (h : s.supply.decided = false) :
    s.applyInput m = s.decideInput m := if_pos (by simp [h])

theorem applyInput_absent {s : State} (m : MeasTable) (h : s.supply.decided = true) (hin : s.supply.input = .absent) :
    s.applyInput m = s.roundAbsent m := by
  unfold applyInput
  rw [if_neg (by simp [h]), hin]

theorem applyInput_present {s : State} (m : MeasTable) (h : s.supply.decided = true) (hin : s.supply.input = .present) :
    s.applyInput m = s.roundPresent m := by
  unfold applyInput
  rw [if_neg (by simp [h]), hin]

/-- R143: the qualification timer runs from the first of the rounds at 4400 mV or more. -/
theorem roundAbsent_low {s : State} {m : MeasTable} (h : m.vin < 4400) :
    s.roundAbsent m = { s with supply := { s.supply with present := none } } := by
  rw [roundAbsent, if_neg (by omega)]

theorem roundAbsent_high {s : State} {m : MeasTable} (h : 4400 ≤ m.vin) : s.roundAbsent m
    = { s with supply := { s.supply with present := some (s.supply.present.getD (later s.tick 16384)) } } := by
  rw [roundAbsent, if_pos h]

theorem roundPresent_high {s : State} {m : MeasTable} (h : 4200 ≤ m.vin) :
    s.roundPresent m = { s with supply := { s.supply with ride := none } } := if_neg (by omega)

theorem roundPresent_low {s : State} {m : MeasTable} {start : Tick} {span : Nat}
    (hstart : start = match s.supply.ride with | some t => t.start | none => s.tick)
    (hspan : span = if s.motion.episode.isSome then 4096 else 2048) (h : m.vin < 4200) :
    s.roundPresent m = if atOrAfter s.tick (later start span) then s.inputBecomes .absent
      else { s with supply := { s.supply with ride := some { start := start, due := later start span } } } := by
  unfold roundPresent
  rw [if_pos h, dropoutTimer_eq hstart hspan]

end State

/-- Settles O42. -/
theorem measurementRounds : Obligations.MeasurementRounds := by
  refine ⟨fun r o m s hv ht hold hm => ⟨_, _, rfl, rfl, ?_⟩, fun m first changed gaugeFirst s => ⟨rfl, rfl, rfl, rfl, rfl⟩,
    ⟨rfl, rfl, rfl, rfl, rfl, rfl⟩, fun m s hd => ⟨fun h => ?_, fun h => ?_⟩,
    fun m s hd hin => ⟨fun h => ?_, fun t hp h => ?_, fun hp h => ?_⟩,
    fun m start span s hd hin hstart hspan => ⟨fun h => ?_, fun h hlate => ?_, fun h hearly => ?_⟩⟩
  · subst hm
    dsimp only [exec, execMeasurementRound]
    rw [State.event_taken _ hv (roundDue_of ht hold)]
    rfl
  · rw [State.applyInput_undecided m hd]
    exact if_pos h
  · rw [State.applyInput_undecided m hd]
    exact if_neg (by omega)
  · rw [State.applyInput_absent m hd hin, State.roundAbsent_low h]
  · rw [State.applyInput_absent m hd hin, State.roundAbsent_high h, hp, Option.getD_some, ← hp]
  · rw [State.applyInput_absent m hd hin, State.roundAbsent_high h, hp, Option.getD_none]
  · rw [State.applyInput_present m hd hin, State.roundPresent_high h]
  · rw [State.applyInput_present m hd hin, State.roundPresent_low hstart hspan h, if_pos hlate]
  · rw [State.applyInput_present m hd hin, State.roundPresent_low hstart hspan h, if_neg (by simp [hearly])]

end Sys2Proof.Machine

/-! # Changes of charge state -/

namespace Sys2Proof.Machine

/-- The notices a change into `new` raises (R166). -/
def chargeNotices (new : ChargeState) : BitVec 16 := if new = .fault then 0x0180 else 0x0080

theorem newCycle_iff (old new : ChargeState) : newCycle old new = true ↔
    (old = .qualify ∧ (new = .precharge ∨ new = .cc ∨ new = .paused)) ∨ (old = .done ∧ (new = .cc ∨ new = .paused)) := by
  cases old <;> cases new <;> simp [newCycle]

namespace State

theorem toCharge_of_eq {s : State} {new : ChargeState} (h : s.charge.state = new) : s.toCharge new = s := if_pos h

/-- The ISET generator after a change into `new`. -/
def isetAfter (s : State) (new : ChargeState) : Generator := if new.charging then s.iset else s.iset.stop

/-- R166: a change of charge state, written out. -/
theorem toCharge_of_ne {s : State} {new : ChargeState} (h : s.charge.state ≠ new) : s.toCharge new = { s with
    charge := s.charge.enter s.tick new, iset := s.isetAfter new
    portB := { s.portB with
      notices := s.portB.notices ||| chargeNotices new
      attn := attnLevel (s.portB.notices ||| chargeNotices new) s.portB.mask } } := by
  unfold toCharge
  rw [if_neg h]
  dsimp only
  by_cases hf : new = .fault
  · have hset : (s.portB.notices ||| Notice.chargeState.set) ||| Notice.chargeFault.set
        = s.portB.notices ||| chargeNotices new := by
      rw [BitVec.or_assoc, chargeNotices, if_pos hf]
      rfl
    rw [if_pos hf, ← hset]
    rfl
  · rw [if_neg hf, chargeNotices, if_neg hf]
    rfl

end State

/-- Settles O44: `State.toCharge_of_ne` and, field by field, `Charge.enter`. -/
theorem chargeStateChanges : Obligations.ChargeStateChanges := by
  intro new s t ht
  subst ht
  refine ⟨fun h => State.toCharge_of_eq h, fun h => ?_⟩
  rw [State.toCharge_of_ne h]
  dsimp only [Charge.enter, State.isetAfter]
  refine ⟨rfl, ⟨_, rfl, rfl⟩, rfl, rfl, fun hq => ?_, fun hc => ?_, fun hn => ?_, fun hn => ?_, fun hn => ?_, fun hq => ?_,
    fun hn hq => ?_, fun hn => ?_, fun hn => ?_, fun hn => ?_, fun hn => ?_⟩
  · simp only [hq, Bool.not_false, if_true, Bool.true_or, Bool.false_eq_true, if_false, Generator.stop_running, true_and]
    exact Generator.stop_off
  · simp only [hc, Bool.not_true, Bool.false_eq_true, if_false, if_true, Bool.false_or, decide_eq_true_eq, true_and]
    exact fun hn => if_neg hn
  · simp [hn]
  · exact if_neg hn
  · exact if_pos hn
  · have hn : new ≠ .qualify := fun hn => h (hq.trans hn.symm)
    rw [if_neg hn, if_pos hq]
  · rw [if_neg hn, if_neg hq]
  · exact if_pos hn
  · exact if_neg hn
  · exact if_pos ((newCycle_iff ..).mpr hn)
  · exact if_neg fun hc => hn ((newCycle_iff ..).mp hc)

end Sys2Proof.Machine

/-! # Temperature and zones -/

namespace Sys2Proof.Machine

/-! ### The thermistor code -/

theorem thermal_short {code : Nat} (c : Charge) (h : code < 64) :
    c.thermal code = { c with therm := some .short, temp := none, zone := .unknown } := by
  rw [Charge.thermal, thermOf, if_pos h]

theorem thermal_opened {code : Nat} (c : Charge) (h : 4032 < code) :
    c.thermal code = { c with therm := some .opened, temp := none, zone := .unknown } := by
  rw [Charge.thermal, thermOf, if_neg (by omega), if_pos h]

theorem thermal_valid {code : Nat} (c : Charge) (hlo : 64 ≤ code) (hhi : code ≤ 4032) : c.thermal code
    = { c with therm := some .valid, temp := some (temperature code), zone := nextZone (temperature code) c.zone } := by
  rw [Charge.thermal, thermOf, if_neg (by omega), if_neg (by omega)]

/-- The breakpoints of R163, as a list. -/
theorem breakpoints_getD : ∀ k < 17, breakpoints.getD k 0
    = ([1500, 1080, 880, 750, 650, 570, 500, 430, 370, 310, 250, 190, 120, 50, -30, -140, -400] : List Int)[k]! := by
  decide

theorem temperature_split {k d : Nat} (hd : d < 256) : temperature (256 * k + d) = breakpoints.getD k 0
    + nearest ((breakpoints.getD (k + 1) 0 - breakpoints.getD k 0) * d) 256 := by
  have hk : (256 * k + d) / 256 = k := by omega
  have hrest : ((256 * k + d : Nat) : Int) - 256 * (k : Nat) = d := by omega
  unfold temperature
  rw [hk]
  dsimp only
  rw [hrest]

/-! ### Zones

A zone moves as far as the rise levels take it, then as far as the fall levels take it back; from `unknown` the
temperature gives the zone. -/

theorem warmed_cold (t : Int) : fourTimes (warmer t) .cold = if 620 ≤ t then .hot else if 470 ≤ t then .warm
    else if 120 ≤ t then .normal else if 20 ≤ t then .cool else .cold := by
  grind [fourTimes, warmer]

theorem warmed_cool (t : Int) : fourTimes (warmer t) .cool = if 620 ≤ t then .hot else if 470 ≤ t then .warm
    else if 120 ≤ t then .normal else .cool := by
  grind [fourTimes, warmer]

theorem warmed_normal (t : Int) :
    fourTimes (warmer t) .normal = if 620 ≤ t then .hot else if 470 ≤ t then .warm else .normal := by
  grind [fourTimes, warmer]

theorem warmed_warm (t : Int) : fourTimes (warmer t) .warm = if 620 ≤ t then .hot else .warm := by
  grind [fourTimes, warmer]

theorem warmed_hot (t : Int) : fourTimes (warmer t) .hot = .hot := rfl

theorem cooled_cold (t : Int) : fourTimes (cooler t) .cold = .cold := rfl

theorem cooled_cool (t : Int) : fourTimes (cooler t) .cool = if t ≤ -20 then .cold else .cool := by
  grind [fourTimes, cooler]

theorem cooled_normal (t : Int) :
    fourTimes (cooler t) .normal = if t ≤ -20 then .cold else if t ≤ 80 then .cool else .normal := by
  grind [fourTimes, cooler]

theorem cooled_warm (t : Int) : fourTimes (cooler t) .warm = if t ≤ -20 then .cold else if t ≤ 80 then .cool
    else if t ≤ 430 then .normal else .warm := by
  grind [fourTimes, cooler]

theorem cooled_hot (t : Int) : fourTimes (cooler t) .hot = if t ≤ -20 then .cold else if t ≤ 80 then .cool
    else if t ≤ 430 then .normal else if t ≤ 580 then .warm else .hot := by
  grind [fourTimes, cooler]

theorem nextZone_known {z : Zone} (t : Int) (h : z ≠ .unknown) :
    nextZone t z = fourTimes (cooler t) (fourTimes (warmer t) z) := if_neg h

/-- Settles O46. -/
theorem temperatureAndZones : Obligations.TemperatureAndZones := by
  refine ⟨fun code c => ⟨thermal_short c, thermal_opened c, thermal_valid c⟩, fun k d t hk hd ht => ?_, fun t => rfl,
    fun t => ?_, fun t => ?_, fun t => ?_, fun t => ?_, fun t => ?_⟩
  · subst ht
    rw [temperature_split hd, breakpoints_getD k (by omega), breakpoints_getD (k + 1) (by omega)]
  · rw [nextZone_known t (by decide), warmed_cold]
    split_ifs <;> grind [cooled_cold, cooled_cool, cooled_normal, cooled_warm, cooled_hot]
  · rw [nextZone_known t (by decide), warmed_cool]
    split_ifs <;> grind [cooled_cool, cooled_normal, cooled_warm, cooled_hot]
  · rw [nextZone_known t (by decide), warmed_normal]
    split_ifs <;> grind [cooled_normal, cooled_warm, cooled_hot]
  · rw [nextZone_known t (by decide), warmed_warm]
    split_ifs <;> grind [cooled_warm, cooled_hot]
  · rw [nextZone_known t (by decide), warmed_hot, cooled_hot]

end Sys2Proof.Machine

/-! # Charge requests -/

namespace Sys2Proof.Machine

namespace State

/-! ### ISET -/

theorem driveIset_on {s : State} (h : 0 < s.charge.target) : s.driveIset = { s with
    iset := if s.iset.running then s.iset.update 256 (s.charge.target / 12)
      else Generator.begin s.tick 256 (s.charge.target / 12)
    charge := { s.charge with isetWidth := s.charge.target / 12 } } := if_pos h

theorem driveIset_off {s : State} (h : s.charge.target = 0) : s.driveIset
    = { s with iset := s.iset.stop, charge := { s.charge with isetWidth := 0 } } := if_neg (by omega)

/-- R180: what driving ISET writes. -/
theorem driveIset_blocks (s : State) : s.driveIset
    = { s with iset := s.driveIset.iset, charge := { s.charge with isetWidth := s.charge.target / 12 } } := by
  rcases Nat.eq_zero_or_pos s.charge.target with h | h
  · rw [driveIset_off h, h]
  · rw [driveIset_on h]

theorem driveIset_running {s : State} (h : 0 < s.charge.target) (hr : s.iset.running = true) : s.driveIset.iset
    = { s.iset with staged := some { period := 256, width := s.charge.target / 12 } } := by
  rw [driveIset_on h]
  dsimp only
  rw [if_pos hr, Generator.update, if_pos hr]

theorem driveIset_stopped {s : State} (h : 0 < s.charge.target) (hr : s.iset.running = false) : s.driveIset.iset
    = { running := true, period := 256, width := s.charge.target / 12, start := s.tick, staged := none
        output := if s.charge.target / 12 = 0 then .low else .high } := by
  rw [driveIset_on h]
  exact if_neg (by simp [hr])

theorem driveIset_zero {s : State} (h : s.charge.target = 0) : s.driveIset.iset.running = false
    ∧ (s.iset.running = true → s.driveIset.iset.output = .low ∧ s.driveIset.iset.staged = none) := by
  rw [driveIset_off h]
  exact ⟨Generator.stop_running _, Generator.stop_off⟩

/-! ### CHARGE_SET -/

/-- R159: the Charge Controller with the new settings, its ceiling lowered to the new cap. -/
def newSettings (s : State) (x : ChargeSettings) : Charge :=
  { s.charge with settings := x, ceiling := min s.charge.ceiling (zoneCap x.iCc s.charge.zone) }

theorem chargeSettings_kept {s : State} {x : ChargeSettings} (h : s.charge.target ≤ (s.newSettings x).targetCap) :
    s.chargeSettings x = { s with charge := s.newSettings x } := if_neg (Nat.not_lt.mpr h)

theorem chargeSettings_lowered {s : State} {x : ChargeSettings} (h : (s.newSettings x).targetCap < s.charge.target) :
    s.chargeSettings x = State.driveIset
      { s with charge := { s.newSettings x with target := (s.newSettings x).targetCap } } := if_pos h

theorem take_withCharge (s : State) (p : Port) (c : Byte) (f : Frame) (x : Charge) :
    { s.take p c f with charge := x } = State.take { s with charge := x } p c f := by
  cases p <;> rfl

theorem take_driveIset (s : State) (p : Port) (c : Byte) (f : Frame) :
    (s.take p c f).driveIset = s.driveIset.take p c f := by
  unfold driveIset
  simp only [take_charge, take_iset, take_tick]
  split_ifs <;> cases p <;> rfl

theorem take_chargeSettings (s : State) (p : Port) (c : Byte) (f : Frame) (x : ChargeSettings) :
    (s.take p c f).chargeSettings x = (s.chargeSettings x).take p c f := by
  unfold chargeSettings
  simp only [take_charge, take_withCharge, take_driveIset]
  split_ifs <;> rfl

end State

theorem chargeSet_local : State.Local chargeSet := by
  intro p b s c f
  rw [chargeSet, State.take_chargeSettings]
  rfl

theorem readCharge_eq (b : List Byte) : readCharge b = {
    iLim := clamp 100 3000 (field b 0 2), iCc := clamp 64 3000 (field b 2 2)
    iPre := clamp 32 512 (field b 4 2), iTerm := clamp 32 512 (field b 6 2)
    vCv := clamp 4100 4400 (field b 8 2) / 10 * 10, safety := clamp 1 16 (field b 10 1)
    rBase := min 500 (field b 11 2) } := by
  rw [← clamp_zero]
  rfl

/-! ### The tables and the class -/

theorem powerTableSet_local : State.Local powerTableSet := by
  intro p b s c f
  cases p <;> rfl

theorem powerTable_eq {b : List Byte} {t : Vector Nat 8} (h : ∀ i : Fin 8, t[i] = min 3000 (field b (2 * i.val) 2)) :
    (Vector.ofFn fun (i : Fin 8) => clamp 0 3000 (field b (2 * i.val) 2)) = t := by
  ext i hi
  simpa [clamp_zero] using (h ⟨i, hi⟩).symm

theorem powerClass_local : State.Local powerClass := by
  intro p b s c f
  unfold powerClass
  split_ifs <;> cases p <;> rfl

theorem powerClass_refused {b : List Byte} (p : Port) (s : State) (h : 8 ≤ field b 0 1) :
    powerClass p b s = (s, .done .badValue []) := dif_neg (Nat.not_lt.mpr h)

theorem powerClass_taken {b : List Byte} {i : Fin 8} (p : Port) (s : State) (h : field b 0 1 = i.val) :
    powerClass p b s = ({ s with charge := { s.charge with cls := i } },
      .done .ok (beBytes 1 i.val ++ beBytes 2 s.charge.table[i])) := by
  have hlt : field b 0 1 < 8 := h ▸ i.isLt
  obtain rfl : (⟨field b 0 1, hlt⟩ : Fin 8) = i := Fin.ext h
  exact dif_pos hlt

/-! ### CHARGE_ENABLE, FAULT_CLEAR -/

theorem chargeEnable_refused {b : List Byte} (p : Port) (s : State) (h : 1 < field b 0 1) :
    chargeEnable p b s = (s, .done .badValue []) := if_pos h

theorem chargeEnable_taken {b : List Byte} (p : Port) (s : State) (h : field b 0 1 ≤ 1) :
    chargeEnable p b s = (s.enableCharge (flagAt b 0),
      .done .ok (encBool (s.enableCharge (flagAt b 0)).charge.enable
        ++ [(s.enableCharge (flagAt b 0)).charge.state.code])) := if_neg (Nat.not_lt.mpr h)

theorem toCharge_enable (s : State) (new : ChargeState) : (s.toCharge new).charge.enable = s.charge.enable := by
  rw [State.toCharge_charge]
  split <;> rfl

theorem enableCharge_on (s : State) : s.enableCharge true
    = if s.charge.state = .off ∧ s.supply.input = .present
      then ({ s with charge := { s.charge with enable := true } } : State).toCharge .qualify
      else { s with charge := { s.charge with enable := true } } := rfl

theorem enableCharge_off (s : State) : s.enableCharge false
    = if s.charge.state = .fault ∨ s.charge.state = .off then { s with charge := { s.charge with enable := false } }
      else ({ s with charge := { s.charge with enable := false } } : State).toCharge .off := by
  have hdef : s.enableCharge false = if s.charge.state = .fault then { s with charge := { s.charge with enable := false } }
      else ({ s with charge := { s.charge with enable := false } } : State).toCharge .off := rfl
  rw [hdef]
  by_cases hoff : s.charge.state = .off
  · rw [if_neg (show s.charge.state ≠ .fault by simp [hoff]), if_pos (.inr hoff)]
    exact State.toCharge_of_eq hoff
  · simp [hoff]

theorem enableCharge_enable (s : State) (on : Bool) : (s.enableCharge on).charge.enable = on := by
  cases on with
  | true =>
    rw [enableCharge_on]
    split_ifs
    · exact toCharge_enable ..
    · rfl
  | false =>
    rw [enableCharge_off]
    split_ifs
    · rfl
    · exact toCharge_enable ..

theorem flying_charge (s : State) (p : Port) (k : Kind) (f : Frame) : (s.flying p k f).charge = s.charge := by
  rw [State.flying, State.setPort_charge]

theorem flying_supply (s : State) (p : Port) (k : Kind) (f : Frame) : (s.flying p k f).supply = s.supply := by
  rw [State.flying, State.setPort_supply]

theorem faultClear_taken {s : State} {new : ChargeState} (p : Port) (b : List Byte) (h : s.charge.state = .fault)
    (hnew : new = if s.charge.enable then .qualify else .off) :
    faultClear p b s = (s.toCharge new, .done .ok [new.code]) := by
  subst hnew
  refine (if_pos h).trans ?_
  dsimp only
  rw [State.toCharge_state]

theorem faultClear_refused {s : State} (p : Port) (b : List Byte) (h : s.charge.state ≠ .fault) :
    faultClear p b s = (s, .done .wrongState []) := if_neg h

/-! ### The end of the qualification -/

theorem pauses_iff (z : Zone) : z.pauses = true ↔ z = .cold ∨ z = .hot := by
  cases z <;> decide

theorem qualified_eq {s : State} {m : MeasTable} {next : ChargeState} (hm : s.supply.table = some m)
    (hnext : next = if m.vbat < 3000 then .precharge else .cc) : s.qualified
      = if s.charge.zone = .cold ∨ s.charge.zone = .hot
        then ({ s with charge := { s.charge with resume := some next } } : State).toCharge .paused
        else s.toCharge next := by
  subst hnext
  unfold State.qualified
  rw [hm]
  simp only [pauses_iff]
  rfl

/-- R159: the new highest target. -/
theorem newSettings_targetCap {s : State} {x : ChargeSettings} {cap most : Nat}
    (hcap : cap = zoneCap x.iCc s.charge.zone)
    (hmost : most = if s.charge.state = .precharge then min x.iPre cap else cap) :
    (s.newSettings x).targetCap = most := by
  subst hcap hmost
  rfl

theorem chargeSettings_rest (s : State) (x : ChargeSettings) : s.chargeSettings x
    = { s with charge := (s.chargeSettings x).charge, iset := (s.chargeSettings x).iset } := by
  by_cases h : s.charge.target ≤ (s.newSettings x).targetCap
  · rw [State.chargeSettings_kept h]
  · rw [State.chargeSettings_lowered (Nat.lt_of_not_le h), State.driveIset_blocks]

/-- R159, R180: a target above the new highest is lowered to it, and ISET driven from it. -/
theorem chargeSettings_target {s : State} {x : ChargeSettings} {cap most : Nat}
    (hcap : cap = zoneCap x.iCc s.charge.zone)
    (hmost : most = if s.charge.state = .precharge then min x.iPre cap else cap) (h : most < s.charge.target) :
    s.chargeSettings x = State.driveIset { s with charge := { s.charge with
      settings := x, ceiling := min s.charge.ceiling cap, target := most } } := by
  have hm := newSettings_targetCap hcap hmost
  rw [State.chargeSettings_lowered (hm ▸ h), hm, hcap]
  rfl

/-- Settles O43. -/
theorem chargeRequests : Obligations.ChargeRequests := by
  refine ⟨fun p f x s hadm hx => ?_, fun x cap most s hcap hmost => ⟨chargeSettings_rest s x, fun h => ?_, fun h => ?_⟩,
    fun p f s hadm => ⟨fun h => ?_, fun t u h ht hu => ?_, fun t u h ht hu => ?_⟩, fun p f t s hadm ht => ?_,
    fun p f s hadm => ⟨fun h => ?_, fun i h => ?_⟩, fun p f new s hadm hnew => ?_, fun next s hv hq hnext htab => ?_⟩
  · rw [hx, ← readCharge_eq]
    exact State.doRequest_local chargeSet_local hadm rfl
  · rw [State.chargeSettings_kept ((newSettings_targetCap hcap hmost).symm ▸ h), hcap]
    rfl
  · rw [chargeSettings_target hcap hmost h, State.driveIset_charge]
    exact ⟨rfl, fun hpos hr => State.driveIset_running hpos hr, fun hpos hr => State.driveIset_stopped hpos hr,
      fun hz => State.driveIset_zero hz⟩
  · exact State.doRequest_flown hadm (chargeEnable_refused p _ h) |>.trans (by rw [State.flying_answer])
  · have hon : flagAt f.body 0 = true := by simp [flagAt_eq_decide, h]
    have hcharge := flying_charge s p .chargeEnable f
    have hu' : (s.flying p .chargeEnable f).enableCharge true = u := by
      rw [enableCharge_on, hcharge, hu, ht]
      dsimp only
      rw [flying_supply]
    refine State.doRequest_flown hadm ?_
    rw [chargeEnable_taken p _ (by omega), hon, enableCharge_enable, hu']
    rfl
  · have hoff : flagAt f.body 0 = false := by simp [flagAt_eq_decide, h]
    have hcharge := flying_charge s p .chargeEnable f
    have hu' : (s.flying p .chargeEnable f).enableCharge false = u := by
      rw [enableCharge_off, hcharge, hu, ht]
    refine State.doRequest_flown hadm ?_
    rw [chargeEnable_taken p _ (by omega), hoff, enableCharge_enable, hu']
    rfl
  · refine State.doRequest_local powerTableSet_local hadm ?_
    rw [powerTableSet, powerTable_eq ht]
    rfl
  · exact State.doRequest_local powerClass_local hadm (powerClass_refused p s h)
  · exact State.doRequest_local powerClass_local hadm (powerClass_taken p s h)
  · have hcharge := flying_charge s p .faultClear f
    by_cases h : s.charge.state = .fault
    · rw [if_pos h]
      exact State.doRequest_flown hadm (faultClear_taken p _ (hcharge ▸ h) (hcharge ▸ hnew))
    · rw [if_neg h, ← State.flying_answer]
      exact State.doRequest_flown hadm (faultClear_refused p _ (hcharge ▸ h))
  · obtain ⟨m, hm⟩ := Option.ne_none_iff_exists'.mp htab
    dsimp only [exec, execQualificationExpiry]
    rw [State.event_taken _ hv ((State.due_iff ..).mpr hq), qualified_eq hm (hnext m hm)]

end Sys2Proof.Machine

/-! # The round's charge transition -/

namespace Sys2Proof.Machine

namespace State

/-! ### What the round counts, and where the change starts -/

/-- R172: the change of charge state works on `u`, the state with the count of CV brought up to date. -/
theorem transition_eq {m : MeasTable} {n : Nat} {s u : State}
    (hn : n = if (s.charge.settings.iTerm : Int) ≤ m.ibat then 0
      else if s.charge.settings.iTerm ≤ s.charge.ceiling then s.charge.term + 1 else s.charge.term)
    (hu : u = if s.charge.state = .cv then { s with charge := { s.charge with term := n } } else s) :
    s.transition m = u.changeCharge m := by
  subst hn hu
  unfold transition Charge.counted
  by_cases h : s.charge.state = .cv
  · rw [if_pos h, if_pos h]
    rfl
  · rw [if_neg h, if_neg h]

theorem counted_rest {n : Nat} {s u : State}
    (hu : u = if s.charge.state = .cv then { s with charge := { s.charge with term := n } } else s) :
    u = { s with charge := { s.charge with term := u.charge.term } } := by
  subst hu
  split_ifs <;> rfl

theorem counted_other {n : Nat} {s u : State}
    (hu : u = if s.charge.state = .cv then { s with charge := { s.charge with term := n } } else s)
    (h : s.charge.state ≠ .cv) : u = s := hu.trans (if_neg h)

/-! ### A fault -/

theorem snap_eq (c : Charge) (m : MeasTable) (cause : FaultCause) : c.snap m cause = {
    previous := c.state, cause := cause, vbat := m.vbat, ibat := m.ibat
    temp := if cause = .thermistorShort ∨ cause = .thermistorOpen then none else c.temp
    target := c.target, safety := c.safety } := by
  cases cause <;> rfl

theorem faultCharge_eq {m : MeasTable} {cause : FaultCause} {s u : State} {snap : Snapshot}
    (hu : u = { s with charge := { s.charge with term := u.charge.term } })
    (hsnap : snap = { previous := s.charge.state, cause := cause, vbat := m.vbat, ibat := m.ibat
                      temp := if cause = .thermistorShort ∨ cause = .thermistorOpen then none else s.charge.temp
                      target := s.charge.target, safety := s.charge.safety }) :
    u.faultCharge m cause = ({ u with charge := { u.charge with snapshot := some snap } } : State).toCharge .fault := by
  have hsame : u.charge.snap m cause = snap := by
    rw [hu, hsnap]
    exact snap_eq s.charge m cause
  rw [faultCharge, hsame]

theorem thermFault_faults {s : State} (m : MeasTable) (cause : FaultCause)
    (h : s.charge.state.charging = true ∨ s.charge.state = .done ∨ s.charge.state = .paused) :
    s.thermFault m cause = s.faultCharge m cause := by
  unfold thermFault
  cases hst : s.charge.state <;> simp [hst, ChargeState.charging] at h ⊢

theorem thermFault_qualify {s : State} (m : MeasTable) (cause : FaultCause) (h : s.charge.state = .qualify) :
    s.thermFault m cause = { s with charge := { s.charge with qual := some (later s.tick (2 ^ 19)) } } := by
  simp only [thermFault, h]

theorem thermFault_idle {s : State} (m : MeasTable) (cause : FaultCause)
    (h : s.charge.state = .off ∨ s.charge.state = .fault) : s.thermFault m cause = s := by
  rcases h with h | h <;> simp only [thermFault, h]

/-! ### The one change, by the condition that applies -/

theorem changeCharge_therm {s : State} {cause : FaultCause} (m : MeasTable)
    (h : (s.charge.therm = some .short ∧ cause = .thermistorShort)
      ∨ (s.charge.therm = some .opened ∧ cause = .thermistorOpen)) : s.changeCharge m = s.thermFault m cause := by
  rcases h with ⟨h, rfl⟩ | ⟨h, rfl⟩ <;> simp only [changeCharge, h]

/-- R169, items 2 to 7: the change when the thermistor code is neither SHORT nor OPEN. -/
theorem changeCharge_clear {s : State} (m : MeasTable) (hshort : s.charge.therm ≠ some .short)
    (hopen : s.charge.therm ≠ some .opened) : s.changeCharge m =
      if s.charge.state.charging && decide (s.charge.settings.vCv + 100 < m.vbat) then s.faultCharge m .overvoltage
      else if s.charge.state = .precharge ∧ 1843200 ≤ s.charge.safety then s.faultCharge m .prechargeTime
      else if s.charge.state.charging && decide (s.charge.settings.safetyLimit ≤ s.charge.safety) then
        s.faultCharge m .safetyTime
      else if s.charge.state.charging && s.charge.zone.pauses then s.pauseCharge s.charge.state
      else if s.charge.state = .paused then
        if s.charge.zone.pauses || s.charge.zone = .unknown then s else s.resumeCharge
      else s.progress m := by
  unfold changeCharge
  dsimp only
  split
  · contradiction
  · contradiction
  · rfl

/-- R169: outside the charging states and PAUSED only the progress remains. -/
theorem changeCharge_resting {s : State} (m : MeasTable) (hshort : s.charge.therm ≠ some .short)
    (hopen : s.charge.therm ≠ some .opened) (hc : s.charge.state.charging = false) (hp : s.charge.state ≠ .paused) :
    s.changeCharge m = s.progress m := by
  have hpre : s.charge.state ≠ .precharge := fun h => by simp [h, ChargeState.charging] at hc
  rw [changeCharge_clear m hshort hopen]
  simp [hc, hp, hpre]

theorem changeCharge_paused {s : State} (m : MeasTable) (hshort : s.charge.therm ≠ some .short)
    (hopen : s.charge.therm ≠ some .opened) (h : s.charge.state = .paused) : s.changeCharge m
      = if s.charge.zone.pauses || s.charge.zone = .unknown then s else s.resumeCharge := by
  rw [changeCharge_clear m hshort hopen]
  simp [h, ChargeState.charging]

theorem progress_idle {s : State} (m : MeasTable)
    (h : s.charge.state = .off ∨ s.charge.state = .fault ∨ s.charge.state = .qualify) : s.progress m = s := by
  rcases h with h | h | h <;> simp only [progress, h]

theorem changeCharge_idle {s : State} (m : MeasTable) (h : s.charge.state = .off ∨ s.charge.state = .fault) :
    s.changeCharge m = s := by
  have hc : s.charge.state.charging = false := by rcases h with h | h <;> rw [h] <;> rfl
  have hp : s.charge.state ≠ .paused := by rcases h with h | h <;> simp [h]
  by_cases hshort : s.charge.therm = some .short
  · rw [changeCharge_therm m (.inl ⟨hshort, rfl⟩), thermFault_idle m _ h]
  by_cases hopen : s.charge.therm = some .opened
  · rw [changeCharge_therm m (.inr ⟨hopen, rfl⟩), thermFault_idle m _ h]
  · rw [changeCharge_resting m hshort hopen hc hp, progress_idle m (by tauto)]

end State

/-! ### Progress -/

theorem vZone_eq {c : Charge} {vz : Nat} (h : vz = if c.zone = .warm then c.settings.vCv - 100 else c.settings.vCv) :
    c.vZone = vz := h.symm

/-- R171, R172, R183: the progress of a round, state by state. -/
theorem progress_cases {m : MeasTable} {vz : Nat} {s : State}
    (hvz : vz = if s.charge.zone = .warm then s.charge.settings.vCv - 100 else s.charge.settings.vCv) :
    (s.charge.state = .precharge → s.progress m = if 3000 ≤ m.vbat then s.toCharge .cc else s)
    ∧ (s.charge.state = .cc → s.progress m = if vz - 20 ≤ m.vbat then s.toCharge .cv else s)
    ∧ (s.charge.state = .cv → s.charge.term < 64 → s.progress m = s)
    ∧ (s.charge.state = .cv → 64 ≤ s.charge.term → s.progress m = ({ s with gauge := { s.gauge with
        acc := s.gauge.capacity * 3774873600, calibrated := true } } : State).toCharge .done)
    ∧ (s.charge.state = .done → vz ≤ m.vbat + 100 → s.progress m = s)
    ∧ (s.charge.state = .done → m.vbat + 100 < vz → s.charge.zone ≠ .cold → s.charge.zone ≠ .hot →
      s.progress m = s.toCharge .cc)
    ∧ (s.charge.state = .done → m.vbat + 100 < vz → s.charge.zone = .cold ∨ s.charge.zone = .hot →
      s.progress m = ({ s with charge := { s.charge with resume := some .cc } } : State).toCharge .paused) := by
  have hzone := vZone_eq hvz
  refine ⟨fun h => ?_, fun h => ?_, fun h hn => ?_, fun h hn => ?_, fun h hv => ?_, fun h hv hcold hhot => ?_,
    fun h hv hz => Eq.trans (b := s.pauseCharge .cc) ?_ rfl⟩ <;> simp only [State.progress, h]
  · rw [hzone]
    exact if_congr (by omega) rfl rfl
  · exact if_neg (by omega)
  · exact if_pos hn
  · exact if_neg (by omega)
  · rw [if_pos (by omega), if_neg]
    rw [pauses_iff]
    tauto
  · rw [if_pos (by omega), if_pos ((pauses_iff _).mpr hz)]

end Sys2Proof.Machine

/-! # The round's charge transition, assembled -/

namespace Sys2Proof.Machine

/-- R169 in a charging state: overvoltage, precharge time, safety time, pause, progress. -/
theorem State.changeCharge_charging {s : State} (m : MeasTable) (htherm : s.charge.therm = some .valid)
    (h : s.charge.state.charging = true) : s.changeCharge m =
      if s.charge.settings.vCv + 100 < m.vbat then s.faultCharge m .overvoltage
      else if s.charge.state = .precharge ∧ 1843200 ≤ s.charge.safety then s.faultCharge m .prechargeTime
      else if s.charge.settings.safety * 3686400 ≤ s.charge.safety then s.faultCharge m .safetyTime
      else if s.charge.zone = .cold ∨ s.charge.zone = .hot then s.pauseCharge s.charge.state
      else s.progress m := by
  have hp : s.charge.state ≠ .paused := fun hp => by simp [hp, ChargeState.charging] at h
  have hlimit : s.charge.settings.safetyLimit = s.charge.settings.safety * 3686400 := rfl
  rw [State.changeCharge_clear m (by simp [htherm]) (by simp [htherm]), hlimit]
  simp [h, hp, pauses_iff]

/-- The two states that differ at most in the termination count agree on what a change of charge state reads. -/
theorem counted_reads {s u : State} (hu : u = { s with charge := { s.charge with term := u.charge.term } }) :
    u.charge.state = s.charge.state ∧ u.charge.therm = s.charge.therm ∧ u.charge.zone = s.charge.zone
    ∧ u.charge.settings = s.charge.settings ∧ u.charge.safety = s.charge.safety := by
  rw [hu]
  exact ⟨rfl, rfl, rfl, rfl, rfl⟩

theorem resumeCharge_eq {s : State} {r : ChargeState} (h : s.charge.resume = some r) :
    s.resumeCharge = ({ s with charge := { s.charge with resume := none } } : State).toCharge r := by
  simp only [State.resumeCharge, h]

/-- Settles O45: every round works on the counted state `u`; the cases are those of `State.changeCharge`. -/
theorem chargeTransitions : Obligations.ChargeTransitions := by
  refine ⟨fun m n s u fault hn hu hfault => ?_, fun m vz s hvz => progress_cases hvz⟩
  have hrest := State.counted_rest hu
  have hsame := State.counted_other hu
  have htrans := State.transition_eq hn hu
  obtain ⟨hst, htherm, hzone, hset, hsaf⟩ := counted_reads hrest
  have hfaulted (cause : FaultCause) : u.faultCharge m cause = fault cause := by
    obtain ⟨snap, hsnap, heq⟩ := hfault cause
    rw [heq, State.faultCharge_eq hrest hsnap]
  rw [htrans]
  refine ⟨fun h => ?_, fun cause hcause => ⟨fun h => ?_, fun h => ?_⟩, fun hvalid => ⟨fun h => ?_, fun h => ?_,
    fun r h hr => ?_, fun h => ?_⟩⟩
  · obtain rfl := hsame (by rcases h with h | h <;> simp [h])
    exact State.changeCharge_idle m h
  · rw [State.changeCharge_therm m (htherm ▸ hcause), State.thermFault_faults m cause (hst ▸ h), hfaulted]
  · obtain rfl := hsame (by simp [h])
    rw [State.changeCharge_therm m hcause, State.thermFault_qualify m cause h]
  · obtain rfl := hsame (by simp [h])
    rw [State.changeCharge_resting m (by simp [hvalid]) (by simp [hvalid]) (by rw [h]; rfl) (by simp [h]),
      State.progress_idle m (by tauto)]
  · rw [State.changeCharge_charging m (htherm ▸ hvalid) (hst ▸ h), hset, hst, hsaf, hzone, hfaulted, hfaulted, hfaulted]
    refine ⟨fun hv => if_pos hv, fun hv => ⟨fun hpre hlong => ?_, fun hpre => ⟨fun hlong => ?_, fun hshort => ⟨fun hz => ?_,
      fun hcold hhot => ?_⟩⟩⟩⟩
    · rw [if_neg (by omega), if_pos ⟨hpre, hlong⟩]
    · rw [if_neg (by omega), if_neg hpre, if_pos hlong]
    · rw [if_neg (by omega), if_neg hpre, if_neg (by omega), if_pos hz]
      rfl
    · rw [if_neg (by omega), if_neg hpre, if_neg (by omega), if_neg (by tauto)]
  · obtain rfl := hsame (by simp [h])
    rw [State.changeCharge_paused m (by simp [hvalid]) (by simp [hvalid]) h]
    refine ⟨fun hz => ?_, fun hz => ?_⟩
    · rw [if_neg (by rcases hz with hz | hz | hz <;> simp [hz, Zone.pauses]), resumeCharge_eq hr]
    · rw [if_pos (by rcases hz with hz | hz <;> simp [hz, Zone.pauses])]
  · obtain rfl := hsame (by simp [h])
    exact State.changeCharge_resting m (by simp [hvalid]) (by simp [hvalid]) (by rw [h]; rfl) (by simp [h])

end Sys2Proof.Machine

/-! # The round's charge work -/

namespace Sys2Proof.Machine

namespace State

/-! ### What the round reaches -/

theorem toCharge_writes (s : State) (new : ChargeState) : Writes [.charge, .iset, .portB] s (s.toCharge new) := by
  by_cases h : s.charge.state = new
  · rw [toCharge_of_eq h]
    exact .refl _ _
  · rw [toCharge_of_ne h]
    simp [Writes, Block.forall_iff]

/-- The blocks a round's charge work reaches. -/
def chargeBlocks : List Block := [.charge, .iset, .gauge, .portB]

theorem withCharge_toCharge_writes (s : State) (c : Charge) (new : ChargeState) :
    Writes chargeBlocks s (({ s with charge := c } : State).toCharge new) := by
  refine Writes.andThen (bs := [.charge]) (cs := [.charge, .iset, .portB]) ?_ (toCharge_writes _ new) (by decide) (by decide)
  simp [Writes, Block.forall_iff]

theorem changeCharge_writes (s : State) (m : MeasTable) : Writes chargeBlocks s (s.changeCharge m) := by
  refine changeCharge_keeps (fun _ => .refl _ _) (fun c _ _ _ => withCharge_toCharge_writes s _ _) (fun q _ => ?_)
    (fun r _ _ _ _ => withCharge_toCharge_writes s _ _) (fun r _ _ => withCharge_toCharge_writes s _ _)
    (fun new _ _ => (toCharge_writes s new).mono (by decide)) (fun _ => ?_)
  · simp [Writes, Block.forall_iff, chargeBlocks]
  · refine Writes.andThen (bs := [.gauge]) (cs := [.charge, .iset, .portB]) ?_ (toCharge_writes _ .done) (by decide) (by decide)
    simp [Writes, Block.forall_iff]

theorem changedInRound_writes (s : State) (m : MeasTable) : Writes chargeBlocks s (s.changedInRound m) := by
  refine Writes.andThen (bs := [.charge]) (cs := chargeBlocks) ?_ (changeCharge_writes _ m) (by decide) (by decide)
  simp [Writes, Block.forall_iff]

/-- A round's work after its change of charge state: the target, and ISET driven from it. -/
theorem chargeRound_blocks {s u : State} {m : MeasTable} (hu : u = s.changedInRound m) : s.chargeRound m = { u with
    charge := (s.chargeRound m).charge
    iset := (State.driveIset { u with charge := u.charge.withTarget m }).iset } := by
  subst hu
  unfold chargeRound
  dsimp only
  rw [← changedInRound, driveIset_blocks]

theorem changedInRound_blocks {s u : State} {m : MeasTable} (hu : u = s.changedInRound m) :
    u = { s with charge := u.charge, iset := u.iset, gauge := u.gauge, portB := u.portB } := by
  subst hu
  have h := changedInRound_writes s m
  rw [Writes, Block.forall_iff] at h
  rw [eq_iff_same, Block.forall_iff]
  simpa [chargeBlocks] using h

end State

/-! ### Trim, CV term, ceiling and target (R176 to R179) -/

section
variable {c : Charge} {m : MeasTable}

theorem withTarget_trim : (c.withTarget m).trim = c.nextTrim m := rfl

theorem withTarget_cv : (c.withTarget m).cv = c.nextCv m := rfl

theorem withTarget_ceiling : (c.withTarget m).ceiling = if c.state.charging then
    ((min (zoneCap c.settings.iCc c.zone) (c.withTarget m).budget : Nat) + (c.withTarget m).trim).toNat else 0 := rfl

theorem nextTrim_resting (h : c.state.charging = false) : c.nextTrim m = c.trim := if_pos (by simp [h])

theorem nextTrim_charging (h : c.state.charging = true) : c.nextTrim m =
    if c.settings.iLim < m.iin then max (-3000) (c.trim - 64)
    else if m.iin + 128 < c.settings.iLim ∧ c.trim < 0 then min 0 (c.trim + 16) else c.trim := if_neg (by simp [h])

theorem nextCv_other (h : c.state ≠ .cv) : c.nextCv m = c.cv := if_pos h

theorem nextCv_cv (h : c.state = .cv) : c.nextCv m = if c.vZone < m.vbat then max (-3000) (c.cv - 16)
    else if m.vbat + 10 < c.vZone ∧ c.cv < 0 then min 0 (c.cv + 16) else c.cv := if_neg (not_not_intro h)

theorem newTarget_resting (h : c.state.charging = false) : c.newTarget = 0 := by
  unfold Charge.newTarget
  cases hst : c.state <;> simp [hst, ChargeState.charging] at h ⊢

theorem newTarget_precharge (h : c.state = .precharge) : c.newTarget
    = ((min c.settings.iPre (min (zoneCap c.settings.iCc c.zone) c.budget) : Nat) + c.trim).toNat := by
  simp only [Charge.newTarget, h]

theorem newTarget_cc (h : c.state = .cc) : c.newTarget = c.ceiling := by
  simp only [Charge.newTarget, h]

theorem newTarget_cv (h : c.state = .cv) : c.newTarget = (c.ceiling + c.cv).toNat := by
  simp only [Charge.newTarget, h]

theorem withTarget_target : (c.withTarget m).target = (c.withTarget m).newTarget := rfl

end

/-- Settles O47: the round's state is the one its change of charge state left, with `Charge.withTarget`, ISET driven from
its target, and the safety count. -/
theorem chargeRound : Obligations.ChargeRound := by
  refine ⟨fun iCc => ⟨rfl, rfl, rfl, rfl, rfl, rfl⟩, fun m s u c d vz cap hc hd hu hvz hcap => ?_⟩
  have hround := State.chargeRound_blocks (m := m) hu
  have hchange := State.changedInRound_blocks (m := m) hu
  have hdw : d = { c.withTarget m with
      isetWidth := (c.withTarget m).target / 12, safety := (c.withTarget m).nextSafety } := by
    rw [hd, hc, hu]
    exact State.chargeRound_charge s m
  have hzone := vZone_eq hvz
  have htarget : d.target = (c.withTarget m).target := by rw [hdw]
  have hceiling : d.ceiling = (c.withTarget m).ceiling := by rw [hdw]
  have htrim : d.trim = c.nextTrim m := by rw [hdw]; rfl
  have hcv : d.cv = c.nextCv m := by rw [hdw]; rfl
  have hbudget : (c.withTarget m).budget = d.budget := by rw [hdw]
  have hsafety : d.safety = (c.withTarget m).nextSafety := by rw [hdw]
  have hiset : (s.chargeRound m).iset = (State.driveIset { u with charge := c.withTarget m }).iset := by
    rw [hround, hc]
  rw [← hd] at hround
  refine ⟨?_, ?_, ?_, ?_, ?_, ?_, fun h => ?_, fun h => ⟨?_, ?_, ?_⟩, fun h => ?_, fun h => ?_, fun h => ?_, fun h => ?_,
    fun h => ?_, ?_, fun h => ?_, fun h hr => ?_, fun h hr => ?_⟩
  · rw [hround, hchange]
  · rw [hround]
  · rw [hround]
  · rw [hdw]
    rfl
  · rw [hdw]
    rfl
  · rw [hdw]
    rfl
  · rw [htrim, hceiling, htarget, hsafety, nextTrim_resting h, withTarget_ceiling, withTarget_target, newTarget_resting (c := c.withTarget m) h]
    simp [Charge.nextSafety, h]
  · rw [htrim, nextTrim_charging h]
  · rw [hceiling, withTarget_ceiling, if_pos h, hbudget, withTarget_trim, ← htrim, ← hcap, Int.toNat_eq_max, max_comm]
  · rw [hsafety, htarget]
    simp [Charge.nextSafety, h]
  · rw [hcv, nextCv_other h]
  · rw [hcv, nextCv_cv h, hzone]
  · rw [htarget, withTarget_target, newTarget_precharge (c := c.withTarget m) h, hbudget,
      withTarget_trim, ← htrim, hcap, Int.toNat_eq_max, max_comm]
    rfl
  · rw [htarget, hceiling, withTarget_target, newTarget_cc (c := c.withTarget m) h]
  · rw [htarget, hceiling, withTarget_target, newTarget_cv (c := c.withTarget m) h, withTarget_cv, ← hcv, Int.toNat_eq_max, max_comm]
  · rw [hdw]
  · rw [hiset]
    exact State.driveIset_zero (htarget ▸ h)
  · rw [hiset, htarget]
    exact State.driveIset_running (htarget ▸ h) hr
  · rw [hiset, htarget]
    exact State.driveIset_stopped (htarget ▸ h) hr

end Sys2Proof.Machine

/-! # Records and settings on the wire -/

namespace Sys2Proof.Machine

/-! ### Fields -/

@[simp] theorem beBytes_length (w n : Nat) : (beBytes w n).length = w := by
  induction w generalizing n with
  | zero => rfl
  | succ w ih => simp [beBytes, ih]

theorem beBytes_getElem? {w i : Nat} (n : Nat) (h : i < w) :
    (beBytes w n)[i]? = some (BitVec.ofNat 8 (n / 256 ^ (w - 1 - i))) := by
  induction w generalizing n with
  | zero => omega
  | succ w ih =>
    rcases Nat.lt_succ_iff_lt_or_eq.mp h with hlt | rfl
    · have hexp : w + 1 - 1 - i = (w - 1 - i) + 1 := by omega
      rw [beBytes, List.getElem?_append_left (by simpa using hlt), ih _ hlt, Nat.div_div_eq_div_mul, hexp, Nat.pow_succ']
    · rw [beBytes, List.getElem?_append_right (by simp)]
      simp

@[simp] theorem beInt_length (w : Nat) (i : Int) : (beInt w i).length = w := beBytes_length ..

theorem beInt_eq (w : Nat) (i : Int) : beInt w i = beBytes w (i % (256 ^ w : Nat)).toNat := by
  rw [beInt, Nat.pow_mul]

/-! ### Flag bytes -/

/-- The number a list of flags spells, the first flag in bit 0. -/
def flagValue (flags : List Bool) : Nat := flags.foldr (fun f acc => 2 * acc + (if f then 1 else 0)) 0

theorem flagByte_eq (flags : List Bool) : flagByte flags = BitVec.ofNat 8 (flagValue flags) := rfl

theorem flagValue_lt (flags : List Bool) : flagValue flags < 2 ^ flags.length := by
  induction flags with
  | nil => decide
  | cons f l ih =>
    have hv : flagValue (f :: l) = 2 * flagValue l + (if f then 1 else 0) := rfl
    rw [hv, List.length_cons, Nat.pow_succ]
    split_ifs <;> omega

theorem testBit_flagValue (flags : List Bool) (i : Nat) : (flagValue flags).testBit i = flags.getD i false := by
  induction flags generalizing i with
  | nil => simp [flagValue]
  | cons f l ih =>
    have hv : flagValue (f :: l) = 2 * flagValue l + f.toNat := by cases f <;> rfl
    rw [hv]
    cases i with
    | zero => cases f <;> simp [Nat.testBit_zero, Nat.add_mod]
    | succ i =>
      have hhalf : (2 * flagValue l + f.toNat) / 2 = flagValue l := by
        have hf := f.toNat_le
        omega
      rw [Nat.testBit_succ, hhalf, ih]
      rfl

theorem flagByte_getLsbD {flags : List Bool} (i : Nat) (hi : i < 8) :
    (flagByte flags).getLsbD i = flags.getD i false := by
  rw [flagByte_eq, BitVec.getLsbD_ofNat, testBit_flagValue, decide_eq_true hi, Bool.true_and]

theorem flagByte_lt {flags : List Bool} (h : flags.length ≤ 8) : (flagByte flags).toNat < 2 ^ flags.length := by
  have hv := flagValue_lt flags
  have hpow : 2 ^ flags.length ≤ 2 ^ 8 := Nat.pow_le_pow_right (by decide) h
  rw [flagByte_eq, BitVec.toNat_ofNat, Nat.mod_eq_of_lt (by omega)]
  exact hv

/-! ### Records -/

theorem corrRec_enc (r : CorrRec) : ∃ flags : Byte,
    flags.getLsbD 0 = r.stale ∧ flags.getLsbD 1 = r.noMotion ∧ flags.getLsbD 2 = r.pinned
    ∧ flags.getLsbD 3 = r.clamped ∧ flags.getLsbD 4 = r.shock ∧ flags.getLsbD 5 = r.droppedBefore
    ∧ flags.toNat < 64
    ∧ r.enc = beBytes 4 r.frame.toNat ++ beBytes 1 r.band ++ [flags] ++ beBytes 6 r.time.toNat
      ++ beBytes 6 r.formed.toNat ++ beInt 2 r.dx ++ beInt 2 r.dy ++ beInt 2 r.droll
    ∧ r.enc.length = 24 :=
  ⟨_, flagByte_getLsbD 0 (by decide), flagByte_getLsbD 1 (by decide), flagByte_getLsbD 2 (by decide),
    flagByte_getLsbD 3 (by decide), flagByte_getLsbD 4 (by decide), flagByte_getLsbD 5 (by decide),
    flagByte_lt (by simp), rfl, by simp [CorrRec.enc, encTick]⟩

theorem clip_enc (x : Clip) : ∃ state prot flags cause : Byte,
    (state = match x.state with | .opened => 0 | .closed => 1 | .cut => 2 | .recycling => 3)
    ∧ (prot = match x.protection with | .none => 0 | .user => 1 | .crash => 2)
    ∧ flags.getLsbD 0 = x.startFrame.isSome ∧ flags.getLsbD 1 = x.ending.isSome
    ∧ flags.getLsbD 2 = x.frameCount.isSome ∧ flags.getLsbD 3 = x.cutCause.isSome
    ∧ flags.getLsbD 4 = x.truncated ∧ flags.toNat < 32
    ∧ (cause = match x.cutCause with
        | none | some .holdExpired => 0
        | some .hardCut => 1
        | some .forced => 2
        | some .unsealed => 3)
    ∧ x.enc = beBytes 4 x.number ++ [state, prot, flags, cause]
      ++ beBytes 2 x.start.epoch.toNat ++ beBytes 6 x.start.tick.toNat
      ++ (match x.ending with
          | some e => beBytes 2 e.epoch.toNat ++ beBytes 6 e.tick.toNat
          | none => [0, 0, 0, 0, 0, 0, 0, 0])
      ++ (match x.startFrame with
          | some n => beBytes 4 n.toNat
          | none => [0, 0, 0, 0])
      ++ (match x.frameCount with
          | some n => beBytes 4 n
          | none => [0, 0, 0, 0])
      ++ beBytes 4 x.committed ++ beBytes 4 x.reserved ++ beBytes 2 x.staleBands ++ beBytes 2 x.pinnedBands
      ++ beBytes 1 x.marks.length
    ∧ x.enc.length = 45 := by
  refine ⟨x.state.code, x.protection.code,
    flagByte [x.startFrame.isSome, x.ending.isSome, x.frameCount.isSome, x.cutCause.isSome, x.truncated],
    (x.cutCause.map CutCause.code).getD 0, rfl, rfl,
    flagByte_getLsbD 0 (by decide), flagByte_getLsbD 1 (by decide), flagByte_getLsbD 2 (by decide),
    flagByte_getLsbD 3 (by decide), flagByte_getLsbD 4 (by decide), flagByte_lt (by simp), ?_, ?_,
    by simp [Clip.enc, encStamp, encTick]⟩
  · cases x.cutCause with
    | none => rfl
    | some c => cases c <;> rfl
  · have hstamp : encStamp (x.ending.getD ⟨0, 0⟩) = match x.ending with
        | some e => beBytes 2 e.epoch.toNat ++ beBytes 6 e.tick.toNat
        | none => [0, 0, 0, 0, 0, 0, 0, 0] := by cases x.ending <;> rfl
    have hframe : beBytes 4 ((x.startFrame.map BitVec.toNat).getD 0) = match x.startFrame with
        | some n => beBytes 4 n.toNat
        | none => [0, 0, 0, 0] := by cases x.startFrame <;> rfl
    have hcount : beBytes 4 (x.frameCount.getD 0) = match x.frameCount with
        | some n => beBytes 4 n
        | none => [0, 0, 0, 0] := by cases x.frameCount <;> rfl
    rw [Clip.enc, hstamp, hframe, hcount]
    simp [encStamp, encTick]

theorem mark_enc (number : Nat) (m : Mark) : m.enc number = beBytes 4 number
      ++ ([match m.kind with | .shock => 0 | .crash => 1 | .user => 2, if m.peak.isSome then 1 else 0] : List Byte)
      ++ beBytes 2 m.time.epoch.toNat ++ beBytes 6 m.time.tick.toNat
      ++ (match m.peak with
          | some k => beBytes 2 k
          | none => [0, 0])
      ++ beBytes 1 m.band.val
    ∧ (m.enc number).length = 17 := by
  refine ⟨?_, by simp [Mark.enc, encStamp, encTick]⟩
  have hpeak : beBytes 2 (m.peak.getD 0) = match m.peak with | some k => beBytes 2 k | none => [0, 0] := by
    cases m.peak <;> rfl
  have hflag : flagByte [m.peak.isSome] = if m.peak.isSome then 1 else 0 := by
    cases m.peak <;> rfl
  have hkind : m.kind.code = match m.kind with | .shock => 0 | .crash => 1 | .user => 2 := rfl
  rw [Mark.enc, hpeak, hflag, hkind]
  simp [encStamp, encTick]

theorem cutRec_enc (c : CutRec) : c.enc = beBytes 4 c.number
      ++ ([match c.cause with | .holdExpired => 0 | .hardCut => 1 | .forced => 2 | .unsealed => 3
        , (if c.vbat.isSome then 1 else 0) + (if c.charge.isSome then 2 else 0)] : List Byte)
      ++ beBytes 4 c.committed ++ beBytes 2 c.time.epoch.toNat ++ beBytes 6 c.time.tick.toNat
      ++ (match c.vbat with
          | some v => beBytes 2 v
          | none => [0, 0])
      ++ [match c.charge with
          | some x => x.code
          | none => 0]
    ∧ c.enc.length = 21 := by
  refine ⟨?_, by simp [CutRec.enc, encStamp, encTick]⟩
  have hflags : flagByte [c.vbat.isSome, c.charge.isSome]
      = (if c.vbat.isSome then 1 else 0) + (if c.charge.isSome then 2 else 0) := by
    cases c.vbat <;> cases c.charge <;> rfl
  have hvbat : beBytes 2 (c.vbat.getD 0) = match c.vbat with | some v => beBytes 2 v | none => [0, 0] := by
    cases c.vbat <;> rfl
  have hcharge : (c.charge.map ChargeState.code).getD 0 = match c.charge with | some x => x.code | none => 0 := by
    cases c.charge <;> rfl
  have hcause : c.cause.code = match c.cause with | .holdExpired => 0 | .hardCut => 1 | .forced => 2 | .unsealed => 3 :=
    rfl
  rw [CutRec.enc, hflags, hvbat, hcharge, hcause]
  simp [encStamp, encTick]

theorem axisMap_code (a : AxisMap) :
    a.code = (match a.src with | .x => 0 | .y => 1 | .z => 2) + (if a.minus then 128 else 0) := by
  obtain ⟨src, minus⟩ := a
  cases src <;> cases minus <;> decide

theorem motionSettings_enc (x : MotionSettings) : x.enc = beBytes 2 x.gain ++ [x.map.yaw.code, x.map.pitch.code, x.map.roll.code]
      ++ beBytes 1 x.leak[0] ++ beBytes 1 x.leak[1] ++ beBytes 1 x.leak[2] ++ beBytes 1 x.leak[3]
      ++ beBytes 2 x.still ++ beBytes 2 x.shock ++ beBytes 2 x.crash := by
  have hleak : x.leak.toList = [x.leak[0], x.leak[1], x.leak[2], x.leak[3]] := by
    apply List.ext_getElem (by simp)
    intro i hi _
    have : i < 4 := by simpa using hi
    interval_cases i <;> simp
  rw [MotionSettings.enc, hleak]
  simp

theorem snapshot_enc (x : Snapshot) : x.enc = [x.previous.code, x.cause.code]
      ++ beBytes 2 x.vbat ++ beInt 2 x.ibat
      ++ (match x.temp with
          | some t => 1 :: beInt 2 t
          | none => [0, 0, 0])
      ++ beBytes 2 x.target ++ beBytes 4 x.safety := by
  have htemp : encOpt 2 (beInt 2) x.temp = match x.temp with | some t => 1 :: beInt 2 t | none => [0, 0, 0] := by
    cases x.temp <;> rfl
  rw [Snapshot.enc, htemp]

/-- Settles O60. -/
theorem recordLayouts : Obligations.RecordLayouts :=
  ⟨fun w n => ⟨beBytes_length w n, fun _ hi => beBytes_getElem? n hi⟩, beInt_eq, corrRec_enc, clip_enc, mark_enc,
    fun _ => rfl, cutRec_enc, snapshot_enc,
    axisMap_code, motionSettings_enc, fun _ => rfl, fun _ => rfl, fun _ => rfl⟩

end Sys2Proof.Machine

/-! # SOFT_RESET -/

namespace Sys2Proof.Machine

theorem PortState.change_empty_change (x : PortState) : (x.change .empty).change .empty = x.change .empty := by
  simp [PortState.change, Slot.state]

theorem PortState.raise_raise (x : PortState) (n : Notice) : (x.raise n).raise n = x.raise n := by
  unfold PortState.raise PortState.withNotices
  dsimp only
  rw [BitVec.or_assoc, BitVec.or_self]

namespace State

/-! ### The rail and Port A's slot -/

theorem railGoesOff_none {s : State} (h : s.supply.rail ≠ .off) : s.railGoesOff none = s.railEffects := by
  unfold railGoesOff
  rw [if_neg h]
  cases s.railOwner <;> rfl

/-- R10: the pairing of Port A once its slot has been abandoned. -/
def pairingLeft (s : State) : Pairing :=
  match s.portA.slot with
  | .working _ n => if s.pairA.armed = some n then { armed := none, timeout := none } else s.pairA
  | _ => s.pairA

theorem pairingLeft_idle {s : State} (h : s.portA.slot.state ≠ .working) : s.pairingLeft = s.pairA := by
  unfold pairingLeft
  cases hslot : s.portA.slot with
  | working k n => exact absurd (congrArg Slot.state hslot) h
  | empty => rfl
  | answered a => rfl

theorem abandon_a_pairA (s : State) : (s.abandon .a).pairA = s.pairingLeft := by
  by_cases h : s.portA.slot.state = .working
  · cases hslot : s.portA.slot with
    | working k n => simp only [(abandon_a_working hslot).1, pairingLeft, hslot]
    | empty => simp [hslot, Slot.state] at h
    | answered a => simp [hslot, Slot.state] at h
  · rw [(abandon_a_idle h).1, pairingLeft_idle h]

theorem railEffects_pairA (s : State) : s.railEffects.pairA = s.pairingLeft := by
  rw [railEffects_eq, abandon_a_pairA, railDown_eq]
  rfl

/-- R157, R203: the first work of a SOFT_RESET, apart from what the later work sets again. -/
theorem rail_then_abandon (s : State) : ∃ ftrig frames cls queue,
    frames.lens = s.frames.lens
    ∧ (s.railGoesOff none).abandon .a = { s with
      supply := { s.supply with rail := .off, ramp := if s.supply.rail = .off then s.supply.ramp else none }
      charge := { s.charge with cls := cls }, ftrig := ftrig, frames := frames
      portA := s.portA.change .empty, pairA := s.pairingLeft, link := { s.link with queue := queue } } := by
  by_cases h : s.supply.rail = .off
  · have hsupply : ({ s.supply with
        rail := .off, ramp := if s.supply.rail = .off then s.supply.ramp else none } : Supply) = s.supply := by
      rw [if_pos h, ← h]
    refine ⟨s.ftrig, s.frames, s.charge.cls, (s.abandon .a).link.queue, rfl, ?_⟩
    rw [railGoesOff_off none h, hsupply, ← abandon_a_pairA]
    exact abandon_a_eq s
  · have hlens : s.frames.railOff.lens = s.frames.lens := by
      unfold Frames.railOff
      split <;> rfl
    have hempty : s.railEffects.portA.slot.state ≠ .working := by
      rw [railEffects_blocks]
      exact fun hw => by cases hw
    refine ⟨s.ftrigStopped, s.frames.railOff, 0, s.railEffects.link.queue, hlens, ?_⟩
    rw [railGoesOff_none h, abandon_a_eq, abandon_a_pairA, pairingLeft_idle hempty, (abandon_a_idle hempty).2,
      railEffects_pairA, if_neg h]
    rw [railEffects_blocks]
    dsimp only
    rw [PortState.change_empty_change]

end State

/-! ### The charge cycle -/

/-- R186: the charge record of a cycle begun anew. -/
def Charge.cleared (c : Charge) (state : ChargeState) (qual : Timer) : Charge :=
  { c with
    state := state, qual := qual, cls := 0, resume := none, safety := 0, term := 0, avail := 0, budget := 0, trim := 0
    cv := 0, ceiling := 0, target := 0, isetWidth := 0 }

namespace State

/-- A change of charge state into any but FAULT raises CHARGE_STATE alone. -/
theorem toCharge_raises {s : State} {new : ChargeState} (h : s.charge.state ≠ new) (hf : new ≠ .fault) :
    s.toCharge new = { s with
      charge := s.charge.enter s.tick new, iset := s.isetAfter new, portB := s.portB.raise .chargeState } := by
  rw [toCharge_of_ne h, chargeNotices, if_neg hf]
  rfl

/-- The state of a SOFT_RESET before the Charge Controller takes the input state. -/
def chargeCleared (s : State) : State :=
  { s with
    charge := s.charge.cleared .off none, iset := Generator.stopped
    portB := if s.charge.state ≠ .off then s.portB.raise .chargeState else s.portB }

theorem chargeSoftReset_eq_input (s : State) : s.chargeSoftReset = s.chargeCleared.chargeInput := by
  unfold chargeSoftReset
  dsimp only
  congr 1
  by_cases h : s.charge.state = .off
  · rw [toCharge_of_eq h, chargeCleared, if_neg (not_not_intro h), Charge.cleared, ← h]
  · rw [toCharge_raises h (by decide), chargeCleared, if_pos h]
    rfl

/-- R186: the charge cycle begins anew, at once when the input is PRESENT and charging enabled. -/
theorem chargeSoftReset_eq {s : State} {again : Bool}
    (hagain : again = (decide (s.supply.input = .present) && s.charge.enable)) : s.chargeSoftReset = { s with
      charge := s.charge.cleared (if again then .qualify else .off) (if again then some (later s.tick (2 ^ 19)) else none)
      iset := Generator.stopped
      portB := if s.charge.state ≠ .off ∨ again = true then s.portB.raise .chargeState else s.portB } := by
  rw [chargeSoftReset_eq_input]
  cases again with
  | false =>
    have hstay : s.chargeCleared.chargeInput = s.chargeCleared := by
      cases hin : s.supply.input with
      | absent => exact (chargeInput_absent (s := s.chargeCleared) hin).trans (toCharge_of_eq rfl)
      | present =>
        have hen : s.charge.enable = false := by simpa [hin] using hagain
        exact (chargeInput_present (s := s.chargeCleared) hin).trans (if_neg fun h => absurd (hen.symm.trans h.2) (by decide))
    rw [hstay]
    simp [chargeCleared]
  | true =>
    obtain ⟨hin, hen⟩ : s.supply.input = .present ∧ s.charge.enable = true := by simpa using hagain.symm
    have hportB : s.chargeCleared.portB.raise .chargeState = s.portB.raise .chargeState := by
      by_cases h : s.charge.state = .off <;> simp [chargeCleared, h, PortState.raise_raise]
    have hoff : s.chargeCleared.charge.state ≠ .qualify := fun h => by cases h
    have hchanged : s.charge.state ≠ .off ∨ true = true := .inr rfl
    rw [(chargeInput_present (s := s.chargeCleared) hin).trans (if_pos ⟨rfl, hen⟩),
      toCharge_raises hoff (by decide), hportB, if_pos hchanged]
    rfl

end State

/-! ### The whole of SOFT_RESET -/

/-- R203: the state of a SOFT_RESET before the charge cycle's part. -/
theorem motionSoftReset_eq (s : State) : ∃ cls,
    ((s.railGoesOff none).portsSoftReset).motionSoftReset = { s with
      portA := (s.portA.change .empty).withMask 0xFFFF, portB := s.portB.withMask 0xFFFF, pairA := s.pairingLeft
      channels := Channels.none, qualifier := Qualifier.atReset s.qualifier.raw, wheel := WheelMeter.atReset
      ftrig := Generator.stopped, link := s.link.softReset
      motion := Motion.atReset s.motion.settings s.motion.limit, frames := Frames.atReset s.frames.lens
      supply := { s.supply with rail := .off, ramp := if s.supply.rail = .off then s.supply.ramp else none }
      charge := { s.charge with cls := cls } } := by
  obtain ⟨ftrig, frames, cls, queue, hlens, heq⟩ := State.rail_then_abandon s
  refine ⟨cls, ?_⟩
  unfold State.portsSoftReset
  dsimp only
  rw [heq, ← hlens]
  rfl

theorem softReset_eq {s : State} {again : Bool}
    (hagain : again = (decide (s.supply.input = .present) && s.charge.enable)) : s.softReset = { s with
      portA := (s.portA.change .empty).withMask 0xFFFF
      portB := if s.charge.state ≠ .off ∨ again = true then (s.portB.withMask 0xFFFF).raise .chargeState
        else s.portB.withMask 0xFFFF
      pairA := s.pairingLeft
      channels := Channels.none, qualifier := Qualifier.atReset s.qualifier.raw, wheel := WheelMeter.atReset
      ftrig := Generator.stopped, iset := Generator.stopped, link := s.link.softReset
      motion := Motion.atReset s.motion.settings s.motion.limit, frames := Frames.atReset s.frames.lens
      supply := { s.supply with rail := .off, ramp := if s.supply.rail = .off then s.supply.ramp else none }
      charge := s.charge.cleared (if again then .qualify else .off)
        (if again then some (later s.tick (2 ^ 19)) else none) } := by
  obtain ⟨cls, heq⟩ := motionSoftReset_eq s
  rw [State.softReset, heq]
  exact State.chargeSoftReset_eq hagain

theorem softReset_clipOpen {s : State} {x : Clip} (p : Port) (b : List Byte) (hx : s.catalogue.openClip = some x) :
    softReset p b s = (s, .done .clipOpen []) := if_pos (by simp [hx])

theorem softReset_taken {s : State} (p : Port) (b : List Byte) (hx : s.catalogue.openClip = none) :
    softReset p b s = (s.softReset, .done .ok []) := if_neg (by simp [hx])

/-- Port B's answer to the SOFT_RESET that has just been taken, its notices and mask set. -/
theorem softReset_portB {x : PortState} {f : Frame} {changed : Prop} [Decidable changed] {sets : BitVec 16}
    (hsets : sets = if changed then x.notices ||| 0x0080 else x.notices) (k : Byte) :
    ({ (if changed then (PortState.withMask { x with
          slot := .working k (x.takings + 1), takings := x.takings + 1, earlier := Earlier.none
          sent := requestSends .b (x.met f.began) f, busy := false } 0xFFFF).raise .chargeState
        else PortState.withMask { x with
          slot := .working k (x.takings + 1), takings := x.takings + 1, earlier := Earlier.none
          sent := requestSends .b (x.met f.began) f, busy := false } 0xFFFF) with
      slot := .answered (reply .ok .softReset []), earlier := Earlier.none } : PortState) = {
        slot := .answered (reply .ok .softReset []), earlier := Earlier.none, takings := x.takings + 1
        notices := sets, mask := 0xFFFF, attn := attnLevel sets 0xFFFF, sent := [], busy := false } := by
  subst hsets
  split_ifs <;> rfl

/-- Settles O49. -/
theorem softResetRequest : Obligations.SoftReset := by
  refine ⟨fun p f x s hadm hx => ?_, fun p f s again sets pairA hadm hx hagain hsets hpair => ?_⟩
  · rw [← State.flying_answer]
    exact State.doRequest_flown hadm (softReset_clipOpen p _ (State.flying_catalogue s p .softReset f ▸ hx))
  · obtain rfl := State.allowed_softReset hadm.2.2
    have hpairing : s.pairingLeft = pairA := hpair.symm
    refine (State.doRequest_flown hadm (softReset_taken .b _ hx)).trans (congrArg _ ?_)
    rw [softReset_eq (s := s.flying .b .softReset f) hagain, ← hpairing, ← softReset_portB (f := f) hsets (Kind.code .softReset)]
    rfl

end Sys2Proof.Machine
